-- ==== Sys2Proof/Word.lean ====
section
/-! DEFINITION. The word types of TIGER_CORE (spec/00_scope.md R6, R8): unsigned, with bit 0 the least significant. -/

namespace Sys2Proof

/-- A byte of the message, of BUF or of the digest (R23, R163). -/
abbrev Byte := BitVec 8

/-- A 64-bit word: `+`, `-` and `*` wrap modulo 2^64 (R6, R8, R129). -/
abbrev Word := BitVec 64

/-- A 72-bit command word OP[71:68], ARG[67:64], DATA[63:0] (R6, R70). -/
abbrev Command := BitVec 72

end Sys2Proof
end

