-- ==== Sys2Proof/Syntax.lean ====
section
/-! DEFINITION. The commands of TIGER_CORE, one constructor per row of spec/opcode_table.json (R73, R74). A constructor holds
the fields its command reads; the bits it ignores (R77) are not part of it. -/

namespace Sys2Proof

/-- Every 72-bit word is exactly one of these (R74). An illegal ARG is kept: the command itself rejects it when it executes. -/
inductive Instr where
  /-- NOP, OP = 0x0 (R182): ARG and DATA are ignored. -/
  | nop
  /-- INIT, OP = 0x1 (R183): `arg` selects the output width; DATA is ignored. -/
  | init (arg : BitVec 4)
  /-- ABSORB, OP = 0x2 (R184): `arg` is the byte count n, `data` the eight byte lanes. -/
  | absorb (arg : BitVec 4) (data : Word)
  /-- FINAL, OP = 0x3 (R185): `arg` must be 0; DATA is ignored. -/
  | final (arg : BitVec 4)
  /-- Reserved opcode 0x4 (R186), and so on up to 0xF: ARG and DATA are ignored. -/
  | reserved4
  | reserved5
  | reserved6
  | reserved7
  | reserved8
  | reserved9
  | reservedA
  | reservedB
  | reservedC
  | reservedD
  | reservedE
  | reservedF
  deriving DecidableEq, Repr

end Sys2Proof
end

