-- ==== Sys2Proof/WellFormed.lean ====
section
/-! DEFINITION. The legal commands: the column "legal ARG" of the opcode map (R73), of which R75 lists the rest. This is what
a host should send. It is no condition of the machine: every command, legal or not, has a meaning (R74, R75). -/

namespace Sys2Proof

/-- INIT's ARG is 0, 1 or 2 (R73, R183). -/
def legalWidthArg (arg : BitVec 4) : Bool := decide (arg.toNat ≤ 2)

/-- ABSORB's ARG is 1..8 (R73, R184). -/
def legalCountArg (arg : BitVec 4) : Bool := decide (1 ≤ arg.toNat ∧ arg.toNat ≤ 8)

/-- FINAL's ARG is 0 (R73, R185). -/
def legalFinalArg (arg : BitVec 4) : Bool := decide (arg = 0)

/-- The command is a legal encoding of R73; the reserved opcodes have none (R75). -/
def Instr.wellFormed : Instr → Bool
  | .nop => true
  | .init arg => legalWidthArg arg
  | .absorb arg _ => legalCountArg arg
  | .final arg => legalFinalArg arg
  | .reserved4 | .reserved5 | .reserved6 | .reserved7 | .reserved8 | .reserved9 | .reservedA | .reservedB | .reservedC
  | .reservedD | .reservedE | .reservedF => false

end Sys2Proof
end

