-- ==== Sys2Proof/Decode.lean ====
section
/-! DEFINITION. Decoding and encoding of the 72-bit command word (spec/30_encoding.md R70 to R77). -/

namespace Sys2Proof

/-- OP = CMD[71:68] (R70). -/
def opOf (w : Command) : BitVec 4 := w.extractLsb' 68 4

/-- ARG = CMD[67:64], read zero-extended (R70, R72). -/
def argOf (w : Command) : BitVec 4 := w.extractLsb' 64 4

/-- DATA = CMD[63:0] (R70). -/
def dataOf (w : Command) : Word := w.extractLsb' 0 64

/-- The decoder selects on OP alone and is total: no word is rejected (R73, R74). The last line is OP = 0xF: OP has four bits. -/
def decode (w : Command) : Instr :=
  match (opOf w).toNat with
  | 0x0 => .nop
  | 0x1 => .init (argOf w)
  | 0x2 => .absorb (argOf w) (dataOf w)
  | 0x3 => .final (argOf w)
  | 0x4 => .reserved4
  | 0x5 => .reserved5
  | 0x6 => .reserved6
  | 0x7 => .reserved7
  | 0x8 => .reserved8
  | 0x9 => .reserved9
  | 0xA => .reservedA
  | 0xB => .reservedB
  | 0xC => .reservedC
  | 0xD => .reservedD
  | 0xE => .reservedE
  | _ => .reservedF

/-- The OP field of a command (R73). -/
def Instr.opcode : Instr → BitVec 4
  | .nop => 0x0
  | .init _ => 0x1
  | .absorb _ _ => 0x2
  | .final _ => 0x3
  | .reserved4 => 0x4
  | .reserved5 => 0x5
  | .reserved6 => 0x6
  | .reserved7 => 0x7
  | .reserved8 => 0x8
  | .reserved9 => 0x9
  | .reservedA => 0xA
  | .reservedB => 0xB
  | .reservedC => 0xC
  | .reservedD => 0xD
  | .reservedE => 0xE
  | .reservedF => 0xF

/-- The ARG field of a command (R70); 0 where the command ignores ARG, as R77 asks of a host. -/
def Instr.argField : Instr → BitVec 4
  | .init arg | .absorb arg _ | .final arg => arg
  | .nop | .reserved4 | .reserved5 | .reserved6 | .reserved7 | .reserved8 | .reserved9 | .reservedA | .reservedB
  | .reservedC | .reservedD | .reservedE | .reservedF => 0

/-- The DATA field of a command (R70); 0 where the command ignores DATA, as R77 asks of a host. -/
def Instr.dataField : Instr → Word
  | .absorb _ data => data
  | .nop | .init _ | .final _ | .reserved4 | .reserved5 | .reserved6 | .reserved7 | .reserved8 | .reserved9 | .reservedA
  | .reservedB | .reservedC | .reservedD | .reservedE | .reservedF => 0

/-- The reserved opcodes 0x4 to 0xF (R186). -/
def Instr.isReserved (i : Instr) : Bool := decide (4 ≤ i.opcode.toNat)

/-- The word {OP, ARG, DATA} of a command (R70, R71), with every ignored bit written as 0 (R77). -/
def encode (i : Instr) : Command := i.opcode ++ i.argField ++ i.dataField

/-- The decoder's answer for a row's word `w` of `nbits` bits, as spec/opcode_table.json numbers them. A command is one word of
72 bits; a row that claimed more would be no command of this core. -/
def decodeTableWord (nbits w : Nat) : Option Instr :=
  if nbits ≤ 72 then some (decode (BitVec.ofNat 72 (w % 2 ^ nbits))) else none

/-- The mask every row of the opcode table has: CMD[71:68] (R73). -/
def opMask : Command := 0xF00000000000000000

/-- The match pattern of a command's row in the opcode table (R73). -/
def rowPattern : Instr → Command
  | .nop => 0x000000000000000000
  | .init _ => 0x100000000000000000
  | .absorb _ _ => 0x200000000000000000
  | .final _ => 0x300000000000000000
  | .reserved4 => 0x400000000000000000
  | .reserved5 => 0x500000000000000000
  | .reserved6 => 0x600000000000000000
  | .reserved7 => 0x700000000000000000
  | .reserved8 => 0x800000000000000000
  | .reserved9 => 0x900000000000000000
  | .reservedA => 0xA00000000000000000
  | .reservedB => 0xB00000000000000000
  | .reservedC => 0xC00000000000000000
  | .reservedD => 0xD00000000000000000
  | .reservedE => 0xE00000000000000000
  | .reservedF => 0xF00000000000000000

end Sys2Proof
end

