-- ==== Sys2Proof/Config.lean ====
section
/-! DEFINITION. What an implementation or a platform fixes, and the one value the spec leaves free. Each is a constant
without a body: no proof can learn its value. -/

namespace Sys2Proof

/-- FREE VALUE. What the hidden round counter RC holds after a compression: R25 says it runs from 0 to 23 inside one and R131
that a compression leaves it "with values no port shows". Applied to State.freeCount, a fresh value for each compression
(notes/assumptions/3.md). -/
opaque Config.freeRoundCounter : Nat → BitVec 5

/-- LAT_ABSORB: cycles of BUSY for an ABSORB that fills no block (R7, R260). No definition reads it. -/
opaque Config.latAbsorb : Nat

/-- LAT_BLOCK: cycles of BUSY added by each compression (R7, R260). No definition reads it. -/
opaque Config.latBlock : Nat

/-- LAT_FINAL: cycles of BUSY for a FINAL besides its compressions (R7, R260). No definition reads it. -/
opaque Config.latFinal : Nat

/-- N_INST: the number of core instances on the platform, at least 1 (R7, R232). No definition reads it. -/
opaque Config.nInst : ℕ+

/-- TIGER_BASE: where a platform maps the core, if it is bus-attached (R51). No definition reads it. -/
opaque Config.tigerBase : Nat

end Sys2Proof
end

