-- ==== Sys2Proof/Machine/State.lean ====
section
/-! DEFINITION. The state of TIGER_CORE at a command boundary (spec/10_state.md), the reasons a step can stop, and the state
after reset (R35, R250). -/

namespace Sys2Proof.Machine

/-- Three 64-bit words: the chaining registers A, B, C (R20), or their saved copies AA, BB, CC (R24). -/
structure Chain where
  a : Word
  b : Word
  c : Word
  deriving DecidableEq, Repr

/-- The eight schedule words X[0..7] (R23). -/
structure Sched where
  x0 : Word
  x1 : Word
  x2 : Word
  x3 : Word
  x4 : Word
  x5 : Word
  x6 : Word
  x7 : Word
  deriving DecidableEq, Repr

/-- PHASE, the sequencer state (R28). The code 3 is never held, so it is no value of the type. -/
inductive Phase where
  | idle
  | absorb
  | done
  deriving DecidableEq, Repr

/-- OUTW, the output width of the open or finished message (R29). The code 3 is never held, so it is no value of the type. -/
inductive Width where
  | w192
  | w160
  | w128
  deriving DecidableEq, Repr

/-- ERRCODE (R221). The codes 5..15 are never raised, so they are no values of the type. -/
inductive ErrCode where
  | noError
  | badOp
  | badArg
  | badSeq
  | badWidth
  deriving DecidableEq, Repr

/-- The memory BUF (R50): cells (offset, byte), offsets strictly rising and below 64. An offset that is not listed holds NO
VALUE (R9, R35): reading it is a fault. -/
abbrev Memory := List Host.Cell

/-- The input pins at one clock edge that falls on a command boundary (R180): `rst`, `cmd_valid` and `cmd_word`. -/
structure PortIn where
  rst : Bool
  cmdValid : Bool
  cmdWord : Command
  deriving DecidableEq, Repr

/-- Everything the spec gives the core at a command boundary, the input pins it reads, and the model's own counter of free
values. The S-box ROM is a constant (Sys2Proof.Machine.sbox): nothing writes it (R210). -/
structure State where
  /-- A, B, C: the chaining value (R20, R21). -/
  cv : Chain
  /-- AA, BB, CC: the chaining value saved for the feedforward (R24). -/
  saved : Chain
  /-- X[0..7]: the schedule words (R23). -/
  x : Sched
  /-- RC: the hidden round counter (R25), 5 bits wide (R35). -/
  rc : BitVec 5
  /-- BUF[0..63] (R23, R50). -/
  buf : Memory
  /-- LEN: the message bytes absorbed since INIT, modulo 2^64 (R26). -/
  len : Word
  /-- BLKCNT: the compressions since INIT, modulo 2^64 (R27). -/
  blkcnt : Word
  /-- PHASE (R28). -/
  phase : Phase
  /-- OUTW (R29). -/
  outw : Width
  /-- ERR: the sticky error flag (R30). -/
  err : Bool
  /-- ERRCODE: the code of the error that set ERR (R30, R221). -/
  errcode : ErrCode
  /-- BUSY: 1 from a command's acceptance to its completion (R31). -/
  busy : Bool
  /-- The input pins, edge by edge, the current one first; past the end nothing is presented (notes/assumptions/5.md). -/
  inputs : List PortIn
  /-- The MODEL's own field: how many free values have been drawn (notes/assumptions/3.md). -/
  freeCount : Nat
  deriving DecidableEq, Repr

/-- Why the model stops on a state in which the spec's own rule reads a value that is not there. -/
inductive Fault where
  /-- Raised by an ABSORB that completes a block, or by a FINAL, when a byte of BUF that the rule reads holds no value: "Any
  rule that would read it is a model fault, never a value" (R9). SAFE. No state that meets Sys2Proof.Inv raises it. -/
  | unspecifiedBufRead
  deriving DecidableEq, Repr

/-- Why the model gives a step no meaning. -/
inductive Refusal where
  /-- Raised by exec for a command that has no meaning yet; no arm uses it. SAFE. -/
  | notModelled (mnemonic : String)
  /-- Raised by step in a state with BUSY = 1 in which reset is not asserted. The model has no such cycles (R259), and no state
  that meets Sys2Proof.Inv is one. SAFE. -/
  | commandInProgress
  deriving DecidableEq, Repr

/-- What a step or a command answers. -/
abbrev Result := Host.Outcome State Fault Refusal

/-- The core right after reset (R35, R250), with nothing presented at the command port. The spec gives PHASE, OUTW, ERR, ERRCODE,
LEN, BLKCNT and BUSY; BUF holds no value. DESIGN CHOICE: A, B, C, AA, BB, CC, X and RC, which the spec leaves unspecified, are 0
(notes/assumptions/1.md). -/
def State.reset : State where
  cv := ⟨0, 0, 0⟩
  saved := ⟨0, 0, 0⟩
  x := ⟨0, 0, 0, 0, 0, 0, 0, 0⟩
  rc := 0
  buf := []
  len := 0
  blkcnt := 0
  phase := .idle
  outw := .w192
  err := false
  errcode := .noError
  busy := false
  inputs := []
  freeCount := 0

end Sys2Proof.Machine
end

