-- ==== Sys2Proof/Machine/Bytes.lean ====
section
/-! DEFINITION. The conversions between bytes and words (spec/00_scope.md R8, spec/20_memory.md R52 to R56). Every one is
little-endian, and nothing switches the order. -/

namespace Sys2Proof.Machine

/-- `bytek(w, k)` = w[8k+7:8k]: byte 0 is the least significant (R8, R56). -/
def bytek (w : Word) (k : Nat) : Byte := w.extractLsb' (8 * k) 8

/-- The number whose byte j is the j-th element of the list, in n bits. -/
def packBytes (n : Nat) (bs : List Byte) : BitVec n := bs.foldr (fun b acc => (acc <<< 8) ||| b.setWidth n) 0

/-- `le64(b0..b7)` = sum of b_j * 2^(8j) (R8). -/
def le64 (bs : List Byte) : Word := packBytes 64 bs

/-- `bytes_le(w)`: the eight bytes of a word, least significant first (R8). -/
def bytesLE (w : Word) : List Byte :=
  [bytek w 0, bytek w 1, bytek w 2, bytek w 3, bytek w 4, bytek w 5, bytek w 6, bytek w 7]

/-- Word i of a block: le64(b[8i], ..., b[8i+7]) (R52). -/
def blockWord (block : List Byte) (i : Nat) : Word := le64 ((block.drop (8 * i)).take 8)

/-- A 64-byte block as the eight words X[0..7] (R52). -/
def blockWords (block : List Byte) : Sched :=
  ⟨blockWord block 0, blockWord block 1, blockWord block 2, blockWord block 3, blockWord block 4, blockWord block 5,
    blockWord block 6, blockWord block 7⟩

end Sys2Proof.Machine
end

