-- ==== Sys2Proof/Machine/Operands.lean ====
section
/-! DEFINITION. The operands of the commands (spec/30_encoding.md R72): ARG as a width or a count, DATA as byte lanes. -/

namespace Sys2Proof.Machine

/-- INIT's ARG as the output width: 0 is 192 bits, 1 is 160, 2 is 128; 3..15 is no width (R72, R183). -/
def widthOf (arg : BitVec 4) : Option Width :=
  match arg.toNat with
  | 0 => some .w192
  | 1 => some .w160
  | 2 => some .w128
  | _ => none

/-- ABSORB's message bytes: lanes 0..n-1 of DATA in order, byte j = DATA[8j+7:8j]; lanes n..7 are ignored (R55, R72). -/
def lanes (arg : BitVec 4) (data : Word) : List Byte := (List.range arg.toNat).map (bytek data)

end Sys2Proof.Machine
end

