-- ==== Sys2Proof/Machine/Compress.lean ====
section
/-! DEFINITION. The compression function (spec/41_compression.md R120 to R130). All arithmetic wraps modulo 2^64, shifts are
logical, and nothing sets a flag (R129). -/

namespace Sys2Proof.Machine

/-- W[i]: W[0] = A, W[1] = B, W[2] = C (R21). -/
def Chain.word (ch : Chain) : Nat → Word
  | 0 => ch.a
  | 1 => ch.b
  | _ => ch.c

/-- X[i], for i in 0..7 (R23). -/
def Sched.word (x : Sched) : Nat → Word
  | 0 => x.x0
  | 1 => x.x1
  | 2 => x.x2
  | 3 => x.x3
  | 4 => x.x4
  | 5 => x.x5
  | 6 => x.x6
  | _ => x.x7

/-- What a round takes from a, by the even bytes of c' (R121). -/
def evenMix (c' : Word) : Word :=
  sbox .s1 (bytek c' 0) ^^^ sbox .s2 (bytek c' 2) ^^^ sbox .s3 (bytek c' 4) ^^^ sbox .s4 (bytek c' 6)

/-- What a round adds to b, by the odd bytes of c' (R121). -/
def oddMix (c' : Word) : Word :=
  sbox .s4 (bytek c' 1) ^^^ sbox .s3 (bytek c' 3) ^^^ sbox .s2 (bytek c' 5) ^^^ sbox .s1 (bytek c' 7)

/-- `Round(a, b, c, x, mul)` = (a', b', c') (R121). -/
def tigerRound (a b c x mul : Word) : Word × Word × Word :=
  let c' := c ^^^ x
  (a - evenMix c', (b + oddMix c') * mul, c')

/-- MUL[p]: pass 0 multiplies by 5, pass 1 by 7, pass 2 by 9 (R124). -/
def passMul : Nat → Word
  | 0 => 5
  | 1 => 7
  | _ => 9

/-- Round r of a compression: the roles a, b, c are W[r mod 3], W[(r+1) mod 3], W[(r+2) mod 3], and each result goes back to the
register it was read from (R123). -/
def roundAt (x : Sched) (ch : Chain) (r : Nat) : Chain :=
  let out := tigerRound (ch.word (r % 3)) (ch.word ((r + 1) % 3)) (ch.word ((r + 2) % 3)) (x.word (r % 8)) (passMul (r / 8))
  match r % 3 with
  | 0 => ⟨out.1, out.2.1, out.2.2⟩
  | 1 => ⟨out.2.2, out.1, out.2.1⟩
  | _ => ⟨out.2.1, out.2.2, out.1⟩

/-- Pass p: rounds 8p to 8p+7, in order; the rotation runs on across passes (R123, R124). -/
def passRounds (p : Nat) (x : Sched) (ch : Chain) : Chain := (List.range' (8 * p) 8).foldl (roundAt x) ch

/-- `KeySchedule(X[0..7])`: sixteen steps strictly in order, each reading what the earlier ones wrote (R125). -/
def keySchedule (x : Sched) : Sched :=
  let x0 := x.x0 - (x.x7 ^^^ 0xA5A5A5A5A5A5A5A5)
  let x1 := x.x1 ^^^ x0
  let x2 := x.x2 + x1
  let x3 := x.x3 - (x2 ^^^ ((~~~x1) <<< 19))
  let x4 := x.x4 ^^^ x3
  let x5 := x.x5 + x4
  let x6 := x.x6 - (x5 ^^^ ((~~~x4) >>> 23))
  let x7 := x.x7 ^^^ x6
  let x0 := x0 + x7
  let x1 := x1 - (x0 ^^^ ((~~~x7) <<< 19))
  let x2 := x2 ^^^ x1
  let x3 := x3 + x2
  let x4 := x4 - (x3 ^^^ ((~~~x2) >>> 23))
  let x5 := x5 ^^^ x4
  let x6 := x6 + x5
  let x7 := x7 - (x6 ^^^ 0x0123456789ABCDEF)
  ⟨x0, x1, x2, x3, x4, x5, x6, x7⟩

/-- The feedforward onto the saved chaining value: XOR, subtraction, addition (R128). -/
def feedforward (ch saved : Chain) : Chain := ⟨ch.a ^^^ saved.a, ch.b - saved.b, ch.c + saved.c⟩

/-- `Compress((A, B, C), b)` on the words of the block b: three passes, a key schedule before the second and before the third,
then the feedforward (R120, R126). -/
def compress (ch : Chain) (x : Sched) : Chain :=
  let x1 := keySchedule x
  let x2 := keySchedule x1
  feedforward (passRounds 2 x2 (passRounds 1 x1 (passRounds 0 x ch))) ch

/-- The micro-steps of a compression (R130): SAVE with the block's words, round r, a key schedule, FF. -/
inductive MicroStep where
  | save (x : Sched)
  | round (r : Nat)
  | keySchedule
  | feedforward
  deriving DecidableEq, Repr

/-- The registers the micro-steps work on: A, B, C, their saved copies, and X (R20, R23, R24). -/
structure Datapath where
  cv : Chain
  saved : Chain
  x : Sched
  deriving DecidableEq, Repr

/-- One micro-step on the datapath registers (R127, R123, R125, R128). -/
def microStep (d : Datapath) : MicroStep → Datapath
  | .save x => { d with saved := d.cv, x := x }
  | .round r => { d with cv := roundAt d.x d.cv r }
  | .keySchedule => { d with x := Sys2Proof.Machine.keySchedule d.x }
  | .feedforward => { d with cv := Sys2Proof.Machine.feedforward d.cv d.saved }

/-- The 28 micro-steps SAVE, r0..r7, KS1, r8..r15, KS2, r16..r23, FF (R130). -/
def microProgram (x : Sched) : List MicroStep :=
  [.save x] ++ (List.range' 0 8).map .round ++ [.keySchedule] ++ (List.range' 8 8).map .round ++ [.keySchedule]
    ++ (List.range' 16 8).map .round ++ [.feedforward]

end Sys2Proof.Machine
end

