-- ==== Sys2Proof/Machine/Padder.lean ====
section
/-! DEFINITION. The padder/framer: as a function of a whole message (spec/40_padder.md R100, R101) and as FINAL applies it to
the tail (R103). -/

namespace Sys2Proof.Machine

/-- The marker is the one byte 0x01 (R104). -/
def marker : Byte := 0x01

/-- The length field for a byte count L: bytes_le((8 * L) mod 2^64) (R53, R100). The count may itself be held modulo 2^64, as in
LEN (R102). -/
def lengthField (len : Word) : List Byte := bytesLE (8 * len)

/-- z = (55 - L) mod 64 (R100), written without a negative number. -/
def padZeros (msgLen : Nat) : Nat := (119 - msgLen % 64) % 64

/-- `Pad(M)` (R100). -/
def pad (msg : List Byte) : List Byte :=
  msg ++ [marker] ++ List.replicate (padZeros msg.length) 0 ++ lengthField (BitVec.ofNat 64 msg.length)

/-- The 64-byte blocks of a byte sequence, in order; bytes after the last full block are in none of them. -/
def fullBlocks (bs : List Byte) : List (List Byte) :=
  (List.range (bs.length / 64)).map fun i => (bs.drop (64 * i)).take 64

/-- The frames FINAL makes of the tail bytes t, k = LEN mod 64 of them, and LEN: one block when k ≤ 55, else two (R103). -/
def tailFrames (tail : List Byte) (len : Word) : List (List Byte) :=
  let k := tail.length
  if k ≤ 55 then
    [tail ++ [marker] ++ List.replicate (55 - k) 0 ++ lengthField len]
  else
    [tail ++ [marker] ++ List.replicate (63 - k) 0, List.replicate 56 0 ++ lengthField len]

end Sys2Proof.Machine
end

