-- ==== Sys2Proof/Machine/Digest.lean ====
section
/-! DEFINITION. The digest assembler and serializer, and the hash as a function of a message and a width
(spec/42_digest.md R160 to R166). -/

namespace Sys2Proof.Machine

/-- The initial chaining value (A0, B0, C0) (R160). -/
def iv : Chain := ⟨0x0123456789ABCDEF, 0xFEDCBA9876543210, 0xF096A5B4C3B2E187⟩

/-- The fold of the compression over blocks, in order (R161). -/
def foldBlocks (ch : Chain) (blocks : List (List Byte)) : Chain :=
  blocks.foldl (fun h block => compress h (blockWords block)) ch

/-- DLEN(w) in bytes (R162). -/
def digestLen : Width → Nat
  | .w192 => 24
  | .w160 => 20
  | .w128 => 16

/-- `Ser(A, B, C)`: 24 bytes (R54, R163). -/
def serialize (ch : Chain) : List Byte := bytesLE ch.a ++ bytesLE ch.b ++ bytesLE ch.c

/-- `Trunc(d, w)`: the first DLEN(w) bytes (R164). -/
def truncate (d : List Byte) (w : Width) : List Byte := d.take (digestLen w)

/-- `hash(M, w)` (R161, R165). -/
def tigerHash (msg : List Byte) (w : Width) : List Byte := truncate (serialize (foldBlocks iv (fullBlocks (pad msg)))) w

/-- A lowercase hexadecimal digit (R166). -/
def hexDigit (n : Nat) : Char := Char.ofNat (if n < 10 then 48 + n else 87 + n)

/-- `hex(d)`, the host-side rendering: byte 0 first, two lowercase digits a byte, high nibble first (R166). -/
def hex (d : List Byte) : List Char := d.flatMap fun b => [hexDigit (b.toNat / 16), hexDigit (b.toNat % 16)]

end Sys2Proof.Machine
end

