-- ==== Sys2Proof/Machine/Ops.lean ====
section
/-! DEFINITION. The named operations on the state: BUF, the error action, the compression as the registers see it, the start of
a message, the handshake and reset. -/

namespace Sys2Proof.Machine

/-- The byte of BUF at an offset; `none` where it holds no value (R9, R50). -/
def readByte : Memory → Nat → Option Byte
  | [], _ => none
  | (q, v) :: m, p => if q = p then some v else readByte m p

/-- `MemRead(BUF, p, n)`: bytes p..p+n-1; `none` if one of them holds no value (R9, R50). -/
def memRead (m : Memory) : Nat → Nat → Option (List Byte)
  | _, 0 => some []
  | p, n + 1 =>
    match readByte m p, memRead m (p + 1) n with
    | some v, some vs => some (v :: vs)
    | _, _ => none

/-- `MemWrite(BUF, p, 1, v)`: one byte, in the canonical form (R50). -/
def memWrite : Memory → Nat → Byte → Memory
  | [], p, v => [(p, v)]
  | (q, u) :: m, p, v =>
    if p < q then (p, v) :: (q, u) :: m else if p = q then (p, v) :: m else (q, u) :: memWrite m p v

/-- BUF with all 64 bytes zero, as INIT leaves it (R183). -/
def zeroBuf : Memory := (List.range 64).map fun p => (p, 0)

/-- The canonical form of BUF: offsets strictly rising and below 64 (R50). An unlisted offset holds no value, which is no byte,
so no entry can repeat it. -/
abbrev Memory.wf (m : Memory) : Prop := m.Pairwise (fun c d => c.1 < d.1) ∧ ∀ c ∈ m, c.1 < 64

/-- LEN mod 64: the offset the next message byte goes to, and the number of tail bytes in BUF (R23, R50). -/
def bufOffset (s : State) : Nat := s.len.toNat % 64

/-- `raise Error(code)`: ERR and ERRCODE are set and nothing else changes (R222). It is not a trap (R220). -/
def raiseError (code : ErrCode) (s : State) : State := { s with err := true, errcode := code }

/-- The return from an error, and the start of a message: what a successful INIT writes (R183, R226). -/
def startMessage (w : Width) (s : State) : State :=
  { s with
    cv := iv, buf := zeroBuf, len := 0, blkcnt := 0, outw := w, phase := .absorb, err := false, errcode := .noError }

/-- What an INIT with an illegal width writes: the error, and PHASE = IDLE (R183, R222). -/
def rejectWidth (s : State) : State := { raiseError .badWidth s with phase := .idle }

/-- A compression as the registers see it (R131): A, B, C and BLKCNT as the rule says. AA, BB, CC are the chaining value saved at
its start (R127) and X the block's words after both key schedules (R125, R126): notes/assumptions/4.md. RC is a free value:
notes/assumptions/3.md. -/
def compressBlock (block : List Byte) (s : State) : State :=
  { s with
    cv := compress s.cv (blockWords block)
    saved := s.cv
    x := keySchedule (keySchedule (blockWords block))
    rc := Config.freeRoundCounter s.freeCount
    freeCount := s.freeCount + 1
    blkcnt := s.blkcnt + 1 }

/-- ABSORB's store of one message byte: BUF at LEN mod 64, and LEN + 1 (R184). -/
def storeByte (b : Byte) (s : State) : State := { s with buf := memWrite s.buf (bufOffset s) b, len := s.len + 1 }

/-- One message byte of ABSORB (R184): the byte that brings LEN mod 64 to 0 completes the block, which is compressed at once.
`none` if that block has a byte with no value. -/
def absorbByte (b : Byte) (s : State) : Option State :=
  let t := storeByte b s
  if bufOffset t = 0 then (memRead t.buf 0 64).map fun block => compressBlock block t else some t

/-- The message bytes of one ABSORB, in order (R184). -/
def absorbBytes : List Byte → State → Option State
  | [], s => some s
  | b :: bs, s => (absorbByte b s).bind (absorbBytes bs)

/-- Compress frames one after another (R103, R131). -/
def compressFrames (frames : List (List Byte)) (s : State) : State := frames.foldl (fun t frame => compressBlock frame t) s

/-- FINAL's effect on a tail (R185): compress its frames and set PHASE = DONE. BUF may have been working storage, so no byte of
it holds a value afterwards (R23, R105; notes/assumptions/2.md). -/
def finishMessage (tail : List Byte) (s : State) : State :=
  { compressFrames (tailFrames tail s.len) s with phase := .done, buf := [] }

/-- The checks of R181 that ABSORB and FINAL share, in their order: a sticky error, an illegal ARG, the phase. -/
def inOpenMessage (argLegal : Bool) (s : State) (act : Result) : Result :=
  if s.err then .next s
  else if !argLegal then .next (raiseError .badArg s)
  else if s.phase ≠ .absorb then .next (raiseError .badSeq s)
  else act

/-- The next state where every byte a rule reads holds a value; else the spec's model fault (R9). -/
def orFault : Option State → Result
  | some t => .next t
  | none => .fault .unspecifiedBufRead

/-- A reserved opcode: BAD_OP, unless an error is already recorded (R186, R223). -/
def reservedOpcode (s : State) : Result := if s.err then .next s else .next (raiseError .badOp s)

/-- No pin is high: nothing is presented. -/
def PortIn.quiet : PortIn := ⟨false, false, 0⟩

/-- The input pins at this clock edge (R180; notes/assumptions/5.md). -/
def pins (s : State) : PortIn := s.inputs.headD PortIn.quiet

/-- The clock edge has passed: the next entry is on the pins. -/
def passEdge (s : State) : State := { s with inputs := s.inputs.tail }

/-- Reset (R250): every register holds its reset value; the pins are the host's, and the count of free values drawn goes on. -/
def resetCore (s : State) : State := { State.reset with inputs := s.inputs, freeCount := s.freeCount }

/-- Acceptance sets BUSY (R31, R180). -/
def acceptCommand (s : State) : State := { s with busy := true }

/-- Completion clears BUSY (R31). -/
def completeCommand : Result → Result
  | .next s => .next { s with busy := false }
  | .fault r => .fault r
  | .refused r => .refused r

end Sys2Proof.Machine
end

