-- ==== Sys2Proof/Machine/Control.lean ====
section
/-! DEFINITION. NOP and INIT: the two commands that act whatever ERR and PHASE are (spec/43_commands.md R181 to R183). -/

namespace Sys2Proof.Machine

/-- NOP: no state change, in every phase and with ERR = 1 (R182). -/
def execNop (s : State) : Result := .next s

/-- INIT: start a message of the width ARG selects, or reject the width (R183). -/
def execInit (arg : BitVec 4) (s : State) : Result :=
  match widthOf arg with
  | some w => .next (startMessage w s)
  | none => .next (rejectWidth s)

end Sys2Proof.Machine
end

