-- ==== Sys2Proof/Machine/Message.lean ====
section
/-! DEFINITION. ABSORB and FINAL: the two commands of an open message (spec/43_commands.md R184, R185). -/

namespace Sys2Proof.Machine

/-- ABSORB n, data (R184). A block that is to be compressed and has a byte without a value is the spec's model fault (R9). -/
def execAbsorb (arg : BitVec 4) (data : Word) (s : State) : Result :=
  inOpenMessage (legalCountArg arg) s (orFault (absorbBytes (lanes arg data) s))

/-- FINAL (R185): frame the tail (R103), compress each frame, PHASE = DONE. A tail byte without a value is the spec's model fault
(R9). -/
def execFinal (arg : BitVec 4) (s : State) : Result :=
  inOpenMessage (legalFinalArg arg) s
    (orFault ((memRead s.buf 0 (bufOffset s)).map fun tail => finishMessage tail s))

end Sys2Proof.Machine
end

