-- ==== Sys2Proof/Machine/Reserved.lean ====
section
/-! DEFINITION. The reserved opcodes 0x4 to 0xF (spec/43_commands.md R186): BAD_OP, a defined error of the core. -/

namespace Sys2Proof.Machine

/-- Reserved opcode 0x4 (R186). -/
def execReserved4 (s : State) : Result := reservedOpcode s

/-- Reserved opcode 0x5 (R186). -/
def execReserved5 (s : State) : Result := reservedOpcode s

/-- Reserved opcode 0x6 (R186). -/
def execReserved6 (s : State) : Result := reservedOpcode s

/-- Reserved opcode 0x7 (R186). -/
def execReserved7 (s : State) : Result := reservedOpcode s

/-- Reserved opcode 0x8 (R186). -/
def execReserved8 (s : State) : Result := reservedOpcode s

/-- Reserved opcode 0x9 (R186). -/
def execReserved9 (s : State) : Result := reservedOpcode s

/-- Reserved opcode 0xA (R186). -/
def execReservedA (s : State) : Result := reservedOpcode s

/-- Reserved opcode 0xB (R186). -/
def execReservedB (s : State) : Result := reservedOpcode s

/-- Reserved opcode 0xC (R186). -/
def execReservedC (s : State) : Result := reservedOpcode s

/-- Reserved opcode 0xD (R186). -/
def execReservedD (s : State) : Result := reservedOpcode s

/-- Reserved opcode 0xE (R186). -/
def execReservedE (s : State) : Result := reservedOpcode s

/-- Reserved opcode 0xF (R186). -/
def execReservedF (s : State) : Result := reservedOpcode s

end Sys2Proof.Machine
end

