-- ==== Sys2Proof/Machine/Step.lean ====
section
/-! DEFINITION. One step: one clock edge at a command boundary (spec/43_commands.md R180, spec/70_reset_and_hazards.md R250,
R259). -/

namespace Sys2Proof.Machine

/-- `rst` = 1 resets the core, BUSY or not, and accepts no command (R250). Else a state with BUSY = 1 is none of the model's
(R259). Else a presented command is accepted, executed and completed, as one atomic step (R180, R259); and with nothing
presented nothing changes. -/
def step (s : State) : Host.Outcome State Fault Refusal :=
  if (pins s).rst then .next (resetCore (passEdge s))
  else if s.busy then .refused .commandInProgress
  else if (pins s).cmdValid then completeCommand (exec (decode (pins s).cmdWord) (acceptCommand (passEdge s)))
  else .next (passEdge s)

/-- The state in which the host presents the command `w` next (notes/assumptions/5.md): its bits above `nbits` are 0, `rst` is 0
and `cmd_valid` 1. BUSY is 0, as it is at every command boundary (R31), so that the next step accepts it. -/
def State.withFetchWord (s : State) (nbits w : Nat) : State :=
  { s with busy := false, inputs := ⟨false, true, BitVec.ofNat 72 (w % 2 ^ nbits)⟩ :: s.inputs }

end Sys2Proof.Machine
end

