-- ==== Sys2Proof/Machine/Assembler.lean ====
section
/-! DEFINITION. The host side of the command port: how a host writes commands (spec/30_encoding.md R78, R79) and presents them
(spec/43_commands.md R180). No definition of the core reads it. -/

namespace Sys2Proof.Machine

/-- `ABSORB "s"` for a string of 1 to 8 bytes (R78). -/
def absorbString (bs : List Byte) : Instr :=
  .absorb (BitVec.ofNat 4 bs.length) (le64 (bs ++ List.replicate (8 - bs.length) 0))

/-- `ABSORBS "s"`: every command but the last carries 8 bytes, and an empty s expands to nothing (R79). -/
def absorbStrings (bs : List Byte) : List Instr :=
  (List.range ((bs.length + 7) / 8)).map fun i => absorbString ((bs.drop (8 * i)).take 8)

/-- The ARG that selects a width (R72, R78). -/
def widthArg : Width → BitVec 4
  | .w192 => 0
  | .w160 => 1
  | .w128 => 2

/-- `HASH w, "s"` (R79). -/
def hashCommands (w : Width) (bs : List Byte) : List Instr := [.init (widthArg w)] ++ absorbStrings bs ++ [.final 0]

/-- The pins of a clock edge at which the host presents a command and does not assert reset (R180). -/
def present (i : Instr) : PortIn := ⟨false, true, encode i⟩

end Sys2Proof.Machine
end

