-- ==== Sys2Proof/Machine/Flags.lean ====
section
/-! DEFINITION. The codes of the control registers and the STATUS word built from them (spec/10_state.md R28 to R32). The core
has no arithmetic flags (R30). -/

namespace Sys2Proof.Machine

/-- The code of PHASE (R28). -/
def phaseCode : Phase → BitVec 2
  | .idle => 0
  | .absorb => 1
  | .done => 2

/-- The code of OUTW (R29). -/
def widthCode : Width → BitVec 2
  | .w192 => 0
  | .w160 => 1
  | .w128 => 2

/-- The code of ERRCODE (R221). -/
def errCodeCode : ErrCode → BitVec 4
  | .noError => 0
  | .badOp => 1
  | .badArg => 2
  | .badSeq => 3
  | .badWidth => 4

/-- BUFLEN = LEN[5:0] (R32). -/
def bufLen (s : State) : BitVec 6 := s.len.extractLsb' 0 6

/-- STATUS (R32): BUFLEN at [21:16], ERRCODE at [11:8], OUTW at [5:4], PHASE at [3:2], ERR at [1], BUSY at [0]; every other bit
reads 0. -/
def statusWord (s : State) : BitVec 32 :=
  (0 : BitVec 10) ++ bufLen s ++ (0 : BitVec 4) ++ errCodeCode s.errcode ++ (0 : BitVec 2) ++ widthCode s.outw
    ++ phaseCode s.phase ++ BitVec.ofBool s.err ++ BitVec.ofBool s.busy

end Sys2Proof.Machine
end

