-- ==== Sys2Proof/Machine/Ports.lean ====
section
/-! DEFINITION. The output ports as functions of the state (spec/43_commands.md R180, R187 to R190). `none` is "no value": the
spec leaves the port undefined there, and a claim that reads it is a fault (R254, R255; notes/assumptions/8.md). -/

namespace Sys2Proof.Machine

/-- cmd_ready: 1 exactly when BUSY = 0 and rst = 0 (R180). -/
def cmdReady (s : State) : Bool := !s.busy && !(pins s).rst

/-- status_o[0] = BUSY: the one bit of STATUS that is defined while BUSY = 1 (R189, R254). -/
def statusBusyO (s : State) : Option Bool := if (pins s).rst then none else some s.busy

/-- status_o, whole, when BUSY = 0 (R189). -/
def statusO (s : State) : Option (BitVec 32) := if cmdReady s then some (statusWord s) else none

/-- len_o when BUSY = 0 (R189). -/
def lenO (s : State) : Option Word := if cmdReady s then some s.len else none

/-- blkcnt_o when BUSY = 0 (R189). -/
def blkcntO (s : State) : Option Word := if cmdReady s then some s.blkcnt else none

/-- cv_o = (C, B, A) when BUSY = 0 and PHASE is ABSORB or DONE (R188). -/
def cvO (s : State) : Option (BitVec 192) :=
  if cmdReady s && decide (s.phase ≠ .idle) then some (s.cv.c ++ s.cv.b ++ s.cv.a) else none

/-- The 24 bytes of digest_o: the digest, then 0x00 from DLEN(OUTW) on (R187). -/
def digestBytes (s : State) : List Byte :=
  truncate (serialize s.cv) s.outw ++ List.replicate (24 - digestLen s.outw) 0

/-- digest_o when BUSY = 0 and PHASE = DONE (R187). -/
def digestO (s : State) : Option (BitVec 192) :=
  if cmdReady s && decide (s.phase = .done) then some (packBytes 192 (digestBytes s)) else none

end Sys2Proof.Machine
end

