-- ==== Sys2Proof/Safety.lean ====
section
/-! DEFINITION. The terms in which claims speak about runs: the invariant of a command boundary, an open message, and what the
ports can tell apart. -/

namespace Sys2Proof

open Machine

/-- k steps of the machine. -/
def run (k : Nat) (s : State) : Result := Host.Core.run core k s

/-- A run of k steps is safe if it neither faults nor is refused. -/
def Safe (k : Nat) (s : State) : Prop := ∃ t, run k s = .next t

/-- Every byte of BUF holds a value. -/
def BufSpecified (s : State) : Prop := ∀ p, p < 64 → (readByte s.buf p).isSome = true

/-- What every command keeps: BUF in its canonical form; BUF specified while a message is open (R23, R35); ERR = 0 exactly when
ERRCODE = 0 (R33). That PHASE and OUTW are never 3 (R33) holds by their types. -/
structure RegInv (s : State) : Prop where
  bufWf : s.buf.wf
  bufSpecified : s.phase = .absorb → BufSpecified s
  errAgrees : s.err = false ↔ s.errcode = .noError

/-- The invariant of a command boundary: RegInv, and BUSY = 0 (R31). -/
structure Inv (s : State) : Prop where
  regs : RegInv s
  notBusy : s.busy = false

/-- A message is open and M is what it has absorbed (R26, R27, R33, R102): LEN counts the bytes of M, BUF holds the bytes after
its last full block, and A, B, C and BLKCNT stand after its full blocks. -/
structure OpenMessage (msg : List Byte) (s : State) : Prop where
  isOpen : s.phase = .absorb
  len : s.len = BitVec.ofNat 64 msg.length
  tail : memRead s.buf 0 (msg.length % 64) = some (msg.drop (64 * (msg.length / 64)))
  cv : s.cv = foldBlocks iv (fullBlocks msg)
  blkcnt : s.blkcnt = BitVec.ofNat 64 (msg.length / 64)
  bufSpecified : BufSpecified s

/-- Two states that differ at most in what the spec leaves unspecified or hides: A, B, C in PHASE = IDLE, BUF outside
PHASE = ABSORB, and AA, BB, CC, X, RC and the model's own counter anywhere (R20, R23 to R25, R35). -/
structure Agree (s t : State) : Prop where
  len : s.len = t.len
  blkcnt : s.blkcnt = t.blkcnt
  phase : s.phase = t.phase
  outw : s.outw = t.outw
  err : s.err = t.err
  errcode : s.errcode = t.errcode
  busy : s.busy = t.busy
  inputs : s.inputs = t.inputs
  cv : s.phase ≠ .idle → s.cv = t.cv
  buf : s.phase = .absorb → s.buf = t.buf

/-- Two results of the same kind: agreeing states, or the same reason to stop. -/
def AgreeResult : Result → Result → Prop
  | .next s, .next t => Agree s t
  | .fault q, .fault r => q = r
  | .refused q, .refused r => q = r
  | _, _ => False

/-- Every output port shows the same (R180). -/
def SamePorts (s t : State) : Prop :=
  cmdReady s = cmdReady t ∧ statusBusyO s = statusBusyO t ∧ statusO s = statusO t ∧ lenO s = lenO t ∧ blkcntO s = blkcntO t
    ∧ cvO s = cvO t ∧ digestO s = digestO t

/-- Two commands that differ only in ignored bits (R77): the same OP; the same ARG but for NOP and the reserved opcodes; and, for
ABSORB, the same lanes 0..ARG-1. -/
def SameUsedBits (v w : Command) : Prop :=
  opOf v = opOf w ∧ (opOf v = 1 ∨ opOf v = 2 ∨ opOf v = 3 → argOf v = argOf w)
    ∧ (opOf v = 2 → ∀ j, j < (argOf v).toNat → bytek (dataOf v) j = bytek (dataOf w) j)

end Sys2Proof
end

