-- ==== Sys2Proof/Certificates/Slice0/Obligations.lean ====
section
/-! DEFINITION. The statements about this model, for the provers. Each docstring names the rules of spec/ it rests on. -/

open Sys2Proof Sys2Proof.Machine

/-! ## Encoding -/

/-- R73: the opcode map, on words written as the number OP*2^68 + ARG*2^64 + DATA (R71), and its column of legal ARGs. -/
def Obligations.OpcodeMap : Prop :=
  (∀ (arg : BitVec 4) (data : Word),
    let w := fun op : Nat => BitVec.ofNat 72 (op * 2 ^ 68 + arg.toNat * 2 ^ 64 + data.toNat)
    decode (w 0x0) = .nop ∧ decode (w 0x1) = .init arg ∧ decode (w 0x2) = .absorb arg data ∧ decode (w 0x3) = .final arg
    ∧ decode (w 0x4) = .reserved4 ∧ decode (w 0x5) = .reserved5 ∧ decode (w 0x6) = .reserved6
    ∧ decode (w 0x7) = .reserved7 ∧ decode (w 0x8) = .reserved8 ∧ decode (w 0x9) = .reserved9
    ∧ decode (w 0xA) = .reservedA ∧ decode (w 0xB) = .reservedB ∧ decode (w 0xC) = .reservedC
    ∧ decode (w 0xD) = .reservedD ∧ decode (w 0xE) = .reservedE ∧ decode (w 0xF) = .reservedF)
  ∧ Instr.nop.wellFormed = true
  ∧ (∀ arg, (Instr.init arg).wellFormed = true ↔ arg = 0 ∨ arg = 1 ∨ arg = 2)
  ∧ (∀ arg data, (Instr.absorb arg data).wellFormed = true ↔ 1 ≤ arg.toNat ∧ arg.toNat ≤ 8)
  ∧ (∀ arg, (Instr.final arg).wellFormed = true ↔ arg = 0)
  ∧ ∀ i : Instr, i.isReserved = true → i.wellFormed = false

/-- R70, R74: decoding an encoded command gives it back, whatever its operands, legal or not. -/
def Obligations.DecodeInvertsEncode : Prop := ∀ i : Instr, decode (encode i) = i

/-- R77, R70 and notes/assumptions/12.md: encoding what a word decodes to keeps, of the word, OP and ARG for INIT and FINAL,
all 72 bits for ABSORB (its lanes n..7 too, which R77 lists as ignored), and OP alone for NOP and the reserved opcodes; every
other bit comes back 0. That these are written as 0 is the convention R77 gives a host; that ARG and DATA of the reserved
opcodes are among them is the model's reading (log 12), for R77 does not list them. -/
def Obligations.EncodeClearsOnlyIgnoredBits : Prop :=
  ∀ w : Command,
    encode (decode w) =
      w &&& (if opOf w = 1 ∨ opOf w = 3 then 0xFF0000000000000000
        else if opOf w = 2 then 0xFFFFFFFFFFFFFFFFFF else 0xF00000000000000000)

/-- R73 and spec/opcode_table.json: a word matches, under the row mask, the row it decodes to and no other. -/
def Obligations.RowPatternsAreExact : Prop :=
  ∀ (w : Command) (i : Instr), w &&& opMask = rowPattern i ↔ (decode w).opcode = i.opcode

/-- R77, R186 and notes/assumptions/12.md: two commands that differ only in ignored bits have the same result in every state.
That ARG and DATA of the reserved opcodes are ignored is not in R77's list: it is the model's reading (log 12) of R186, which
gives them no operands, and of spec/opcode_table.json. -/
def Obligations.IgnoredBitsDoNotMatter : Prop :=
  ∀ v w : Command, SameUsedBits v w → ∀ s : State, exec (decode v) s = exec (decode w) s

/-- R71, R78, V-CMD: command words written out in the spec decode to the commands they stand for. -/
def Obligations.WrittenWordsDecode : Prop :=
  decode 0x0FFFFFFFFFFFFFFFFF = .nop ∧ decode 0x110000000000000000 = .init 1
  ∧ decode 0x230000000000636261 = .absorb 3 0x636261 ∧ decode 0x310000000000000000 = .final 1
  ∧ decode 0x400000000000000000 = .reserved4 ∧ decode 0xFFFFFFFFFFFFFFFFFF = .reservedF

/-! ## The commands -/

/-- R182: NOP changes no state, in every phase and with ERR = 1; every word with OP = 0 is NOP; and R182's example, after reset
NOP leaves STATUS = 0. -/
def Obligations.NopChangesNothing : Prop :=
  ∀ s : State, exec .nop s = .next s ∧ ∀ w : Command, w.toNat < 2 ^ 68 →
    exec (decode w) s = .next s ∧ ∃ t, exec (decode w) State.reset = .next t ∧ statusO t = some 0

/-- R183, R160: INIT, in every state. A legal width starts a message: the initial chaining value, BUF zero, LEN and BLKCNT zero,
OUTW, PHASE = ABSORB, the error cleared, nothing else written. An illegal width records BAD_WIDTH and sets PHASE = IDLE, and
nothing else is written, and cv_o has no value. No INIT leaves a digest on digest_o. INIT is the only command that clears an
error. The words of the three legal INITs and the example are R183's. -/
def Obligations.InitEffect : Prop :=
  (∀ (arg : BitVec 4) (w : Width) (s : State), (arg, w) ∈ [((0 : BitVec 4), Width.w192), (1, .w160), (2, .w128)] →
    ∃ t, exec (.init arg) s = .next t
      ∧ t = { s with
          cv := ⟨0x0123456789ABCDEF, 0xFEDCBA9876543210, 0xF096A5B4C3B2E187⟩
          buf := t.buf
          len := 0
          blkcnt := 0
          outw := w
          phase := .absorb
          err := false
          errcode := .noError }
      ∧ ∀ p, p < 64 → readByte t.buf p = some 0)
  ∧ (∀ (arg : BitVec 4) (s : State), 3 ≤ arg.toNat →
    exec (.init arg) s = .next { s with err := true, errcode := .badWidth, phase := .idle })
  ∧ (∀ (arg : BitVec 4) (s t : State), exec (.init arg) s = .next t →
    digestO t = none ∧ (3 ≤ arg.toNat → cvO t = none))
  ∧ (∀ (i : Instr) (s t : State), s.err = true → exec i s = .next t → t.err = false → ∃ arg, i = .init arg)
  ∧ (∃ t, exec (.init 1) State.reset = .next t ∧ t.phase = .absorb ∧ t.outw = .w160 ∧ t.len = 0
    ∧ t.cv.a = 0x0123456789ABCDEF ∧ statusO t = some 0x00000014)
  ∧ decode 0x100000000000000000 = .init 0 ∧ decode 0x110000000000000000 = .init 1 ∧ decode 0x120000000000000000 = .init 2

/-- R184: an ABSORB of n bytes that does not reach the end of the block completes, stores byte j of DATA at offset LEN mod 64 + j,
adds n to LEN, and changes nothing else; every other byte of BUF reads as before. -/
def Obligations.AbsorbInsideBlock : Prop :=
  ∀ (n : BitVec 4) (data : Word) (s : State),
    s.err = false → s.phase = .absorb → 1 ≤ n.toNat → n.toNat ≤ 8 → bufOffset s + n.toNat < 64 →
    ∃ t, exec (.absorb n data) s = .next t
      ∧ t = { s with len := s.len + BitVec.ofNat 64 n.toNat, buf := t.buf }
      ∧ ∀ p, readByte t.buf p =
          if bufOffset s ≤ p ∧ p < bufOffset s + n.toNat then some (bytek data (p - bufOffset s)) else readByte s.buf p

/-- R184, R58, R131: an ABSORB whose bytes reach the end of the block completes. The block, BUF's first LEN mod 64 bytes and the
bytes that fill it up, is compressed once; the other bytes go to offsets 0, 1, ... of the next block. LEN, BLKCNT and A, B, C are
as the rules say, every byte of BUF not stored to reads as before, and only what a compression writes (R24, R25, R127) and the
model's own counter may change besides. -/
def Obligations.AbsorbAcrossBoundary : Prop :=
  ∀ (n : BitVec 4) (data : Word) (s : State) (head : List Byte),
    s.err = false → s.phase = .absorb → 1 ≤ n.toNat → n.toNat ≤ 8 → 64 ≤ bufOffset s + n.toNat →
    memRead s.buf 0 (bufOffset s) = some head →
    ∃ t, exec (.absorb n data) s = .next t
      ∧ t = { s with
          cv := compress s.cv (blockWords (head ++ (List.range (64 - bufOffset s)).map (bytek data)))
          len := s.len + BitVec.ofNat 64 n.toNat
          blkcnt := s.blkcnt + 1
          buf := t.buf
          saved := t.saved
          x := t.x
          rc := t.rc
          freeCount := t.freeCount }
      ∧ ∀ p, readByte t.buf p =
          if p + 64 < bufOffset s + n.toNat then some (bytek data (p + (64 - bufOffset s)))
          else if bufOffset s ≤ p ∧ p < 64 then some (bytek data (p - bufOffset s))
          else readByte s.buf p

/-- R103, R185: FINAL on a tail of k = LEN mod 64 bytes completes with one frame when k ≤ 55 and two when 56 ≤ k, laid out as
R103 says and compressed in order; BLKCNT grows by 1 or 2, PHASE is DONE, and LEN, OUTW, ERR, ERRCODE, BUSY and the pins stay.
Only what a compression writes, BUF, and the model's own counter may change besides. -/
def Obligations.FinalFramesTail : Prop :=
  ∀ (s : State) (tail : List Byte),
    s.err = false → s.phase = .absorb → memRead s.buf 0 (s.len.toNat % 64) = some tail →
    ∃ t, exec (.final 0) s = .next t
      ∧ t = { s with
          cv :=
            if s.len.toNat % 64 ≤ 55 then
              compress s.cv (blockWords
                (tail ++ [0x01] ++ List.replicate (55 - s.len.toNat % 64) 0 ++ bytesLE (8 * s.len)))
            else
              compress (compress s.cv (blockWords (tail ++ [0x01] ++ List.replicate (63 - s.len.toNat % 64) 0)))
                (blockWords (List.replicate 56 0 ++ bytesLE (8 * s.len)))
          blkcnt := s.blkcnt + (if s.len.toNat % 64 ≤ 55 then 1 else 2)
          phase := .done
          buf := t.buf
          saved := t.saved
          x := t.x
          rc := t.rc
          freeCount := t.freeCount }

/-- R23, R105 and notes/assumptions/2.md (that an unspecified byte is one that holds no value is the model's reading of R9): after
a FINAL that ends a message no byte of BUF holds a value. -/
def Obligations.FinalLeavesBufUnspecified : Prop :=
  ∀ s t : State, s.phase = .absorb → exec (.final 0) s = .next t → s.err = false → ∀ p, readByte t.buf p = none

/-- R186: a reserved opcode, OP in 0x4..0xF, records BAD_OP, whatever PHASE is, and changes nothing else; with ERR = 1 it changes
nothing; and R186's example, from reset it gives STATUS = 0x00000102. -/
def Obligations.ReservedRaisesBadOp : Prop :=
  (∀ w : Command, (decode w).isReserved = true ↔ 4 ≤ (opOf w).toNat)
  ∧ ∀ i : Instr, i.isReserved = true →
    (∀ s : State, exec i s = .next (if s.err then s else { s with err := true, errcode := .badOp }))
    ∧ ∃ t, exec i State.reset = .next t ∧ statusO t = some 0x00000102

/-- R9 and notes/assumptions/2.md: a FINAL that would read a tail byte that holds no value is the model's fault. -/
def Obligations.UnspecifiedTailFaults : Prop :=
  ∀ s : State, s.err = false → s.phase = .absorb → memRead s.buf 0 (bufOffset s) = none →
    exec (.final 0) s = .fault .unspecifiedBufRead

/-! ## Errors and their order -/

/-- R181, R224: the checks on an executed command, in their order. -/
def Obligations.DispatchOrder : Prop :=
  ∀ (w : Command) (s : State),
    exec (decode w) s =
      if opOf w = 0 then .next s
      else if opOf w = 1 then exec (.init (argOf w)) s
      else if s.err = true then .next s
      else if 4 ≤ (opOf w).toNat then .next { s with err := true, errcode := .badOp }
      else if opOf w = 2 ∧ ¬(1 ≤ (argOf w).toNat ∧ (argOf w).toNat ≤ 8) then .next { s with err := true, errcode := .badArg }
      else if opOf w = 3 ∧ argOf w ≠ 0 then .next { s with err := true, errcode := .badArg }
      else if s.phase ≠ .absorb then .next { s with err := true, errcode := .badSeq }
      else if opOf w = 2 then exec (.absorb (argOf w) (dataOf w)) s
      else exec (.final 0) s

/-- R223: with ERR = 1 every command but NOP and INIT leaves all state unchanged; an INIT with a valid width clears ERR and
ERRCODE; an INIT with an invalid width records BAD_WIDTH. NOP changes nothing either (R182). -/
def Obligations.StickyErrors : Prop :=
  ∀ (i : Instr) (s : State), s.err = true →
    ((∀ arg, i ≠ .init arg) → exec i s = .next s)
    ∧ ∀ arg, i = .init arg →
      (arg.toNat ≤ 2 → ∃ t, exec i s = .next t ∧ t.err = false ∧ t.errcode = .noError)
      ∧ (3 ≤ arg.toNat → ∃ t, exec i s = .next t ∧ t.err = true ∧ t.errcode = .badWidth)

/-- R222: a command that raises an error sets ERR and ERRCODE, and changes nothing else; an INIT that does so also sets
PHASE = IDLE. -/
def Obligations.ErrorsArePrecise : Prop :=
  ∀ (i : Instr) (s t : State), exec i s = .next t → t.err = true → (s.err = false ∨ ∃ arg, i = .init arg) →
    t = { s with
      err := true
      errcode := t.errcode
      phase := match i with
        | .init _ => .idle
        | _ => s.phase }

/-- R221: which command raises which code, and why; no other code is ever raised. -/
def Obligations.ErrorCodesAndCauses : Prop :=
  ∀ (i : Instr) (s t : State), s.err = false → exec i s = .next t →
    (t.err = true ∧ t.errcode = .badOp ↔ i.isReserved = true)
    ∧ (t.err = true ∧ t.errcode = .badArg ↔
        (∃ n data, i = .absorb n data ∧ (n = 0 ∨ 9 ≤ n.toNat)) ∨ ∃ arg, i = .final arg ∧ arg ≠ 0)
    ∧ (t.err = true ∧ t.errcode = .badSeq ↔
        ((∃ n data, i = .absorb n data ∧ 1 ≤ n.toNat ∧ n.toNat ≤ 8) ∨ i = .final 0) ∧ s.phase ≠ .absorb)
    ∧ (t.err = true ∧ t.errcode = .badWidth ↔ ∃ arg, i = .init arg ∧ 3 ≤ arg.toNat)
    ∧ ¬(t.err = true ∧ t.errcode = .noError)

/-! ## Who writes what -/

/-- R20, R131: A, B, C change only by a successful INIT, or by an ABSORB or FINAL that compresses. -/
def Obligations.ChainWriters : Prop :=
  ∀ (i : Instr) (s t : State), exec i s = .next t → t.cv ≠ s.cv →
    (∃ arg, i = .init arg ∧ arg.toNat ≤ 2)
    ∨ (∃ n data, i = .absorb n data ∧ t.blkcnt = s.blkcnt + 1)
    ∨ (i = .final 0 ∧ (t.blkcnt = s.blkcnt + 1 ∨ t.blkcnt = s.blkcnt + 2))

/-- R27, R131, R260: a successful INIT sets BLKCNT to 0; an ABSORB compresses once if its bytes reach the end of the block, else
not; a FINAL once or twice, by the length of the tail; a command that is turned away, NOP and the reserved opcodes not at all. -/
def Obligations.CompressionsPerCommand : Prop :=
  ∀ (i : Instr) (s t : State), exec i s = .next t →
    t.blkcnt =
      match i with
      | .init arg => if arg.toNat ≤ 2 then 0 else s.blkcnt
      | .absorb n _ =>
        if s.err = false ∧ 1 ≤ n.toNat ∧ n.toNat ≤ 8 ∧ s.phase = .absorb ∧ 64 ≤ bufOffset s + n.toNat then s.blkcnt + 1
        else s.blkcnt
      | .final arg =>
        if s.err = false ∧ arg = 0 ∧ s.phase = .absorb then s.blkcnt + (if s.len.toNat % 64 ≤ 55 then 1 else 2)
        else s.blkcnt
      | _ => s.blkcnt

/-- R26: each byte an ABSORB takes in adds 1 to LEN, modulo 2^64; a successful INIT sets LEN to 0; every other command, FINAL
and an ABSORB that is turned away among them, leaves LEN unchanged. -/
def Obligations.LenCountsMessageBytes : Prop :=
  ∀ (i : Instr) (s t : State), exec i s = .next t →
    t.len =
      match i with
      | .init arg => if arg.toNat ≤ 2 then 0 else s.len
      | .absorb n _ =>
        if s.err = false ∧ 1 ≤ n.toNat ∧ n.toNat ≤ 8 ∧ s.phase = .absorb then s.len + BitVec.ofNat 64 n.toNat else s.len
      | _ => s.len

/-- R28: a successful INIT sets PHASE to ABSORB, an INIT with an illegal width to IDLE, a successful FINAL to DONE, and no other
command changes it. -/
def Obligations.PhaseWriters : Prop :=
  ∀ (i : Instr) (s t : State), exec i s = .next t →
    t.phase =
      match i with
      | .init arg => if arg.toNat ≤ 2 then .absorb else .idle
      | .final arg => if s.err = false ∧ arg = 0 ∧ s.phase = .absorb then .done else s.phase
      | _ => s.phase

/-- R29: only a successful INIT writes OUTW, from its ARG. -/
def Obligations.OutwWriters : Prop :=
  ∀ (i : Instr) (s t : State), exec i s = .next t →
    t.outw = s.outw ∨ (i = .init 0 ∧ t.outw = .w192) ∨ (i = .init 1 ∧ t.outw = .w160) ∨ (i = .init 2 ∧ t.outw = .w128)

/-- R30, R223, R226: no command but a successful INIT clears ERR or changes ERRCODE while ERR = 1 (an INIT with an illegal width
records its own code), so the first error stays. -/
def Obligations.OnlyInitLeavesAnError : Prop :=
  ∀ (i : Instr) (s t : State), s.err = true → exec i s = .next t → t.err = false ∨ t.errcode ≠ s.errcode →
    ∃ arg, i = .init arg ∧ (t.err = false → arg.toNat ≤ 2)

/-- R23, R24, R25, R131: X, AA, BB, CC and RC change only in a command that compresses. -/
def Obligations.HiddenRegisterWriters : Prop :=
  ∀ (i : Instr) (s t : State), exec i s = .next t → t.saved ≠ s.saved ∨ t.x ≠ s.x ∨ t.rc ≠ s.rc →
    ((∃ n data, i = .absorb n data) ∨ i = .final 0) ∧ (t.blkcnt = s.blkcnt + 1 ∨ t.blkcnt = s.blkcnt + 2)

/-- R180, R31, as the model arranges them: a command's meaning leaves the list of input pins as it was, because the edge has
passed before it runs (notes/assumptions/5.md), and BUSY as its acceptance set it, because completion clears BUSY after it
(notes/assumptions/6.md); once the command has completed BUSY is 0 (R31). -/
def Obligations.CommandsLeavePinsAlone : Prop :=
  ∀ (i : Instr) (s t : State), exec i s = .next t → t.inputs = s.inputs ∧ t.busy = s.busy

/-! ## The ports -/

/-- R32: the STATUS word, bit by bit, with BUSY = 0 and reset not asserted; after reset it is 0. The model's reading of when
it is defined (notes/assumptions/8.md): while BUSY = 1 the word has no value and bit 0, a port of its own in the model, is 1
(R32, R254: the other bits may show any value); while rst = 1 neither has a value (spec/93_implementation_defined.md U7). -/
def Obligations.StatusLayout : Prop :=
  (∀ s : State, s.busy = false → (pins s).rst = false →
    ∃ w, statusO s = some w
      ∧ w.getLsbD 0 = false
      ∧ w.getLsbD 1 = s.err
      ∧ w.extractLsb' 2 2 = (match s.phase with
        | .idle => 0
        | .absorb => 1
        | .done => 2)
      ∧ w.extractLsb' 4 2 = (match s.outw with
        | .w192 => 0
        | .w160 => 1
        | .w128 => 2)
      ∧ w.extractLsb' 6 2 = 0
      ∧ w.extractLsb' 8 4 = (match s.errcode with
        | .noError => 0
        | .badOp => 1
        | .badArg => 2
        | .badSeq => 3
        | .badWidth => 4)
      ∧ w.extractLsb' 12 4 = 0
      ∧ (w.extractLsb' 16 6).toNat = s.len.toNat % 64
      ∧ w.extractLsb' 22 10 = 0)
  ∧ (∀ s : State, s.busy = true → (pins s).rst = false → statusO s = none ∧ statusBusyO s = some true)
  ∧ (∀ s : State, (pins s).rst = true → statusO s = none ∧ statusBusyO s = none)
  ∧ statusO State.reset = some 0

/-- R188: cv_o shows A at [63:0], B at [127:64], C at [191:128] with BUSY = 0 in PHASE ABSORB or DONE, and has no value in
PHASE = IDLE or while BUSY = 1. The model's reading of spec/93_implementation_defined.md U7 (notes/assumptions/8.md): it has
none while rst = 1. -/
def Obligations.ChainPort : Prop :=
  ∀ s : State,
    ((pins s).rst = false → s.busy = false → s.phase = .absorb ∨ s.phase = .done →
      ∃ w, cvO s = some w ∧ w.extractLsb' 0 64 = s.cv.a ∧ w.extractLsb' 64 64 = s.cv.b ∧ w.extractLsb' 128 64 = s.cv.c)
    ∧ (s.busy = true ∨ s.phase = .idle ∨ (pins s).rst = true → cvO s = none)

/-- R187: digest_o with BUSY = 0 in PHASE = DONE, byte by byte, and the 192-bit number it is when OUTW = 0; in any other state
it has no value. The model's reading of spec/93_implementation_defined.md U7 (notes/assumptions/8.md): it has none while rst =
1. -/
def Obligations.DigestPort : Prop :=
  ∀ s : State,
    ((pins s).rst = false → s.busy = false → s.phase = .done →
      ∃ w, digestO s = some w
        ∧ (∀ i, i < 24 → w.extractLsb' (8 * i) 8 =
            if i < (match s.outw with
              | .w192 => 24
              | .w160 => 20
              | .w128 => 16) then bytek (s.cv.word (i / 8)) (i % 8) else 0)
        ∧ (s.outw = .w192 → w = s.cv.c ++ s.cv.b ++ s.cv.a))
    ∧ (s.busy = true ∨ s.phase ≠ .done ∨ (pins s).rst = true → digestO s = none)

/-- R189, R180: when BUSY = 0 and reset is not asserted, len_o and blkcnt_o show LEN and BLKCNT and cmd_ready is 1; while BUSY
= 1 or rst = 1, cmd_ready is 0. The model's reading of R254 and of spec/93_implementation_defined.md U5 and U7
(notes/assumptions/8.md): len_o and blkcnt_o have no value while BUSY = 1 or rst = 1. -/
def Obligations.CounterPortsAndReady : Prop :=
  ∀ s : State,
    (s.busy = false → (pins s).rst = false → cmdReady s = true ∧ lenO s = some s.len ∧ blkcntO s = some s.blkcnt)
    ∧ (s.busy = true ∨ (pins s).rst = true → cmdReady s = false ∧ lenO s = none ∧ blkcntO s = none)

/-! ## Reset and the step -/

/-- R250: with rst = 1 the core accepts no command, and resets, BUSY or not: every register the spec gives a reset value holds
it, and nothing of a command in progress survives in them. The model's choices: the registers hold these values at the first
edge with rst = 1, where R250 speaks of after rst is 0 again, and the pins to come are kept (notes/assumptions/13.md); the
edge drops the first entry of the pin list (notes/assumptions/5.md). -/
def Obligations.ResetFromAnyState : Prop :=
  ∀ s : State, (pins s).rst = true →
    cmdReady s = false
    ∧ ∃ t, step s = .next t ∧ t.phase = .idle ∧ t.err = false ∧ t.errcode = .noError ∧ t.outw = .w192 ∧ t.len = 0
      ∧ t.blkcnt = 0 ∧ t.busy = false ∧ t.inputs = s.inputs.tail

/-- R180, R181, R259: when BUSY = 0, rst = 0 and a command is presented, a step is that command's Execute. The model's
arrangement: the step drops the first entry of the pin list (notes/assumptions/5.md), and BUSY is set before exec and cleared
after it (notes/assumptions/6.md). -/
def Obligations.StepRunsPresentedCommand : Prop :=
  ∀ (s : State) (w : Command) (rest : List PortIn), s.busy = false → s.inputs = ⟨false, true, w⟩ :: rest →
    step s =
      match exec (decode w) { s with busy := true, inputs := rest } with
      | .next t => .next { t with busy := false }
      | .fault r => .fault r
      | .refused r => .refused r

/-- R180: at a clock edge at which nothing is accepted, because no command is presented, no register changes. That such an edge is
a step of the model is its choice (notes/assumptions/5.md). -/
def Obligations.NothingPresentedNothingChanges : Prop :=
  ∀ s : State, s.busy = false → (pins s).rst = false → (pins s).cmdValid = false →
    step s = .next { s with inputs := s.inputs.tail }

/-- R259 and notes/assumptions/6.md: the model has no cycle with BUSY = 1; a step there is refused, and no command is accepted
(R180). -/
def Obligations.BusyStateIsNotStepped : Prop :=
  ∀ s : State, s.busy = true → (pins s).rst = false → cmdReady s = false ∧ step s = .refused .commandInProgress

/-- notes/assumptions/5.md: the state in which the host presents a word runs exactly that word's command next. -/
def Obligations.PresentedWordRunsNext : Prop :=
  ∀ (s : State) (w : Nat), w < 2 ^ 72 →
    step (s.withFetchWord 72 w) =
      completeCommand (exec (decode (BitVec.ofNat 72 w)) { s with busy := true })
    ∧ decodeTableWord 72 w = some (decode (BitVec.ofNat 72 w))

/-! ## The invariant -/

/-- R33, R35: the state after reset meets the invariant. -/
def Obligations.ResetMeetsInv : Prop := Inv State.reset

/-- R33, R50, R31: every step keeps the invariant: BUF in its canonical form and specified while a message is open (that an
unspecified byte is one that holds no value: notes/assumptions/2.md), ERR = 0 exactly when ERRCODE = 0, BUSY = 0
(notes/assumptions/6.md). -/
def Obligations.StepKeepsInv : Prop := ∀ s t : State, Inv s → step s = .next t → Inv t

/-- R260, R225: from a state that meets the invariant every step completes: no fault (notes/assumptions/2.md), no refusal
(notes/assumptions/6.md), whatever is presented. -/
def Obligations.StepsAlwaysComplete : Prop := ∀ s : State, Inv s → ∃ t, step s = .next t

/-- R260, R225: every command, legal or not, completes in a state that meets the invariant of the registers, and keeps it. -/
def Obligations.CommandsAlwaysComplete : Prop :=
  ∀ (i : Instr) (s : State), RegInv s → ∃ t, exec i s = .next t ∧ RegInv t

/-! ## The compression -/

/-- R121: one round, with byte k of c' read as the number c' div 2^(8k) mod 2^8. -/
def Obligations.RoundFormula : Prop :=
  ∀ a b c x mul : Word,
    let idx := fun k : Nat => BitVec.ofNat 8 ((c ^^^ x).toNat / 2 ^ (8 * k))
    tigerRound a b c x mul =
      (a - (sbox .s1 (idx 0) ^^^ sbox .s2 (idx 2) ^^^ sbox .s3 (idx 4) ^^^ sbox .s4 (idx 6)),
        (b + (sbox .s4 (idx 1) ^^^ sbox .s3 (idx 3) ^^^ sbox .s2 (idx 5) ^^^ sbox .s1 (idx 7))) * mul,
        c ^^^ x)

/-- R123, R124: round r works on the registers W[r mod 3], W[(r+1) mod 3], W[(r+2) mod 3], with X[r mod 8] and MUL[r div 8] of
(5, 7, 9), and writes each result back to the register it read. -/
def Obligations.RoundRotation : Prop :=
  ∀ (x : Sched) (ch : Chain) (r : Nat), r < 24 →
    let out := tigerRound (ch.word (r % 3)) (ch.word ((r + 1) % 3)) (ch.word ((r + 2) % 3)) (x.word (r % 8))
      (([5, 7, 9] : List Word).getD (r / 8) 0)
    (roundAt x ch r).word (r % 3) = out.1 ∧ (roundAt x ch r).word ((r + 1) % 3) = out.2.1
      ∧ (roundAt x ch r).word ((r + 2) % 3) = out.2.2

/-- R211: in every table each byte position, over the 256 entries, is a permutation of 0..255 (the property R211 derives). -/
def Obligations.SboxBytePositionsPermute : Prop :=
  ∀ (t : SboxTable) (k : Nat), k < 8 → Function.Bijective fun i : Byte => bytek (sbox t i) k

/-- R125: the sixteen steps of the key schedule, in order, and R125's example. The complement of w is the number 2^64 - 1 - w; it
is taken before the shift, and the shifts are the product by 2^19 modulo 2^64 and the quotient by 2^23. -/
def Obligations.KeyScheduleFormula : Prop :=
  let notShl19 := fun w : Word => BitVec.ofNat 64 ((2 ^ 64 - 1 - w.toNat) * 2 ^ 19)
  let notShr23 := fun w : Word => BitVec.ofNat 64 ((2 ^ 64 - 1 - w.toNat) / 2 ^ 23)
  (∀ x0 x1 x2 x3 x4 x5 x6 x7 : Word,
    let y0 := x0 - (x7 ^^^ 0xA5A5A5A5A5A5A5A5)
    let y1 := x1 ^^^ y0
    let y2 := x2 + y1
    let y3 := x3 - (y2 ^^^ notShl19 y1)
    let y4 := x4 ^^^ y3
    let y5 := x5 + y4
    let y6 := x6 - (y5 ^^^ notShr23 y4)
    let y7 := x7 ^^^ y6
    let z0 := y0 + y7
    let z1 := y1 - (z0 ^^^ notShl19 y7)
    let z2 := y2 ^^^ z1
    let z3 := y3 + z2
    let z4 := y4 - (z3 ^^^ notShr23 z2)
    let z5 := y5 ^^^ z4
    let z6 := y6 + z5
    let z7 := y7 - (z6 ^^^ 0x0123456789ABCDEF)
    keySchedule ⟨x0, x1, x2, x3, x4, x5, x6, x7⟩ = ⟨z0, z1, z2, z3, z4, z5, z6, z7⟩)
  ∧ (keySchedule ⟨0, 0, 0, 0, 0, 0, 0, 0⟩).x0 = 0xD1D1D1F3F3EF0F10
  ∧ (keySchedule ⟨0, 0, 0, 0, 0, 0, 0, 0⟩).x7 = 0x1684E2043E8407FE

/-- R128: the feedforward is A ^ AA, B - BB, C + CC on the physical registers, the last two modulo 2^64, and it comes after round
23: a compression is the 24 rounds on A, B, C, with X as the block gives it, after one key schedule from round 8 on, and after two
from round 16 on (R120, R126), and then the feedforward with the chaining value before. -/
def Obligations.FeedforwardFormula : Prop :=
  (∀ ch saved : Chain,
    (feedforward ch saved).a = ch.a ^^^ saved.a
    ∧ (feedforward ch saved).b.toNat = (ch.b.toNat + (2 ^ 64 - saved.b.toNat)) % 2 ^ 64
    ∧ (feedforward ch saved).c.toNat = (ch.c.toNat + saved.c.toNat) % 2 ^ 64)
  ∧ ∀ (ch : Chain) (x : Sched),
    let xAt := fun r : Nat => if r < 8 then x else if r < 16 then keySchedule x else keySchedule (keySchedule x)
    compress ch x = feedforward ((List.range 24).foldl (fun d r => roundAt (xAt r) d r) ch) ch

/-- R125: the key schedule is a bijection on the 512-bit block state. -/
def Obligations.KeyScheduleIsBijective : Prop := Function.Bijective keySchedule

/-- R130, R120: a compression is the 28 micro-steps SAVE, r0..r7, KS1, r8..r15, KS2, r16..r23, FF in that order, where SAVE
loads X and copies A, B, C (R127), r is round r on A, B, C (R123), KS1 and KS2 rewrite X (R125), and FF is the feedforward
onto A, B, C (R128): run from any datapath, they leave A, B, C as Compress does. What they leave besides is the model's
reading (notes/assumptions/4.md): AA, BB, CC the chaining value before, and X after both key schedules; an implementation may
leave something else there. -/
def Obligations.MicroStepsGiveCompress : Prop :=
  ∀ (d : Datapath) (x : Sched),
    let steps : List MicroStep :=
      [.save x, .round 0, .round 1, .round 2, .round 3, .round 4, .round 5, .round 6, .round 7, .keySchedule, .round 8,
        .round 9, .round 10, .round 11, .round 12, .round 13, .round 14, .round 15, .keySchedule, .round 16, .round 17,
        .round 18, .round 19, .round 20, .round 21, .round 22, .round 23, .feedforward]
    microStep d (.save x) = ⟨d.cv, d.cv, x⟩
      ∧ (∀ r, microStep d (.round r) = { d with cv := roundAt d.x d.cv r })
      ∧ microStep d .keySchedule = { d with x := keySchedule d.x }
      ∧ microStep d .feedforward = { d with cv := feedforward d.cv d.saved }
      ∧ steps.length = 28 ∧ microProgram x = steps
      ∧ steps.foldl microStep d = ⟨compress d.cv x, d.cv, keySchedule (keySchedule x)⟩

/-- R132: the multipliers as shifts and adds, modulo 2^64. -/
def Obligations.MultipliersAsShifts : Prop :=
  ∀ b : Word, b * passMul 0 = (b <<< 2) + b ∧ b * passMul 1 = (b <<< 3) - b ∧ b * passMul 2 = (b <<< 3) + b

/-- R52: block word i is le64(b[8i], ..., b[8i+7]): byte j of X[i] is b[8i + j]. -/
def Obligations.BlockWordsLittleEndian : Prop :=
  ∀ (block : List Byte) (i j : Nat), block.length = 64 → i < 8 → j < 8 →
    some (bytek ((blockWords block).word i) j) = block[8 * i + j]?

/-- R8: le64 is the sum of b_j * 2^(8j), its byte j is b_j, and bytes_le undoes it. -/
def Obligations.WordByteConversions : Prop :=
  ∀ bs : List Byte, bs.length = 8 →
    (le64 bs).toNat = ((List.range 8).map fun j => (bs.getD j 0).toNat * 2 ^ (8 * j)).sum
    ∧ (∀ j, j < 8 → some (bytek (le64 bs) j) = bs[j]?)
    ∧ bytesLE (le64 bs) = bs
    ∧ ∀ w : Word, le64 (bytesLE w) = w

/-! ## The padder, the hash, and the commands that compute it -/

/-- R100: Pad(M) = M, the byte 0x01, z zero bytes with 0 ≤ z ≤ 63 and z ≡ 55 - L, and the bit length as 8 little-endian bytes;
its length is a multiple of 64. -/
def Obligations.PadLayout : Prop :=
  ∀ msg : List Byte,
    ∃ z, z ≤ 63 ∧ (msg.length + z) % 64 = 55
      ∧ pad msg = msg ++ [0x01] ++ List.replicate z 0 ++ bytesLE (BitVec.ofNat 64 (8 * msg.length))
      ∧ (pad msg).length = msg.length + 1 + z + 8 ∧ 64 ∣ (pad msg).length

/-- R101: Pad(M) has ⌈(L+9)/64⌉ = ⌊L/64⌋ + (1 if L mod 64 ≤ 55 else 2) blocks, each of 64 bytes, and nothing is left over. -/
def Obligations.PadBlockCount : Prop :=
  ∀ msg : List Byte,
    (fullBlocks (pad msg)).length = (msg.length + 9 + 63) / 64
    ∧ (fullBlocks (pad msg)).length = msg.length / 64 + (if msg.length % 64 ≤ 55 then 1 else 2)
    ∧ (∀ block ∈ fullBlocks (pad msg), block.length = 64)
    ∧ (fullBlocks (pad msg)).flatten = pad msg

/-- R102, R103, R106: the full blocks of a message and then FINAL's frames of its tail are the blocks of Pad(M), in order. -/
def Obligations.FramesAreThePadding : Prop :=
  ∀ msg : List Byte,
    fullBlocks msg ++ tailFrames (msg.drop (64 * (msg.length / 64))) (BitVec.ofNat 64 msg.length) = fullBlocks (pad msg)

/-- R183, R252: a successful INIT opens the empty message. -/
def Obligations.InitOpensEmptyMessage : Prop :=
  ∀ (arg : BitVec 4) (s : State), arg.toNat ≤ 2 →
    ∃ t, exec (.init arg) s = .next t ∧ OpenMessage [] t ∧ t.err = false

/-- R184, R33, R102: an ABSORB of n bytes extends the open message by lanes 0..n-1 of its DATA, in order. -/
def Obligations.AbsorbExtendsMessage : Prop :=
  ∀ (msg : List Byte) (n : BitVec 4) (data : Word) (s : State),
    OpenMessage msg s → s.err = false → 1 ≤ n.toNat → n.toNat ≤ 8 →
    ∃ t, exec (.absorb n data) s = .next t ∧ OpenMessage (msg ++ (List.range n.toNat).map (bytek data)) t ∧ t.err = false
      ∧ t.outw = s.outw

/-- R185, R165, R106: FINAL on an open message M leaves the chaining value of Pad(M)'s last block, BLKCNT its number of blocks,
and on digest_o the bytes of hash(M, w). -/
def Obligations.FinalProducesHash : Prop :=
  ∀ (msg : List Byte) (s : State), OpenMessage msg s → s.err = false → s.busy = false → (pins s).rst = false →
    ∃ t, exec (.final 0) s = .next t ∧ t.phase = .done ∧ t.cv = foldBlocks iv (fullBlocks (pad msg))
      ∧ t.blkcnt = BitVec.ofNat 64 ((msg.length + 9 + 63) / 64) ∧ t.len = s.len
      ∧ digestO t = some (packBytes 192 (tigerHash msg s.outw ++ List.replicate (24 - digestLen s.outw) 0))

/-- R165, R106: from any command boundary, whatever the state, an INIT of width w, any ABSORBs of 1 to 8 bytes each, and a
FINAL, presented one after another, are all accepted and end in PHASE = DONE with hash(M, w) as the digest of the absorbed
bytes M, LEN their number and BLKCNT the number of blocks of Pad(M), both modulo 2^64. That each command is one step and takes
one entry of the pin list is the model's arrangement (notes/assumptions/5.md, notes/assumptions/6.md). -/
def Obligations.CommandStreamComputesHash : Prop :=
  ∀ (s : State) (w : Width) (chunks : List (BitVec 4 × Word)) (rest : List PortIn),
    s.busy = false → (∀ c ∈ chunks, 1 ≤ c.1.toNat ∧ c.1.toNat ≤ 8) →
    s.inputs = [present (.init (widthArg w))] ++ chunks.map (fun c => present (.absorb c.1 c.2)) ++ [present (.final 0)]
      ++ rest →
    let msg := chunks.flatMap fun c => (List.range c.1.toNat).map (bytek c.2)
    ∃ t, run (chunks.length + 2) s = .next t ∧ t.inputs = rest ∧ t.phase = .done ∧ t.outw = w ∧ t.err = false
      ∧ t.busy = false ∧ t.len = BitVec.ofNat 64 msg.length
      ∧ t.blkcnt = BitVec.ofNat 64 ((msg.length + 9 + 63) / 64)
      ∧ (digestBytes t).take (digestLen w) = tigerHash msg w
      ∧ ((pins t).rst = false →
          digestO t = some (packBytes 192 (tigerHash msg w ++ List.replicate (24 - digestLen w) 0)))

/-- R79, R165: the pseudo-instruction HASH w, "s" is accepted whole and leaves BUSY = 0, PHASE = DONE, OUTW = w and hash(s, w)
as the digest, on digest_o too. That each command is one step and takes one entry of the pin list is the model's arrangement
(notes/assumptions/5.md, notes/assumptions/6.md); the port's clause has rst = 0 as its condition (notes/assumptions/8.md). -/
def Obligations.HashPseudoCommand : Prop :=
  ∀ (s : State) (w : Width) (msg : List Byte) (rest : List PortIn),
    s.busy = false → s.inputs = (hashCommands w msg).map present ++ rest →
    ∃ t, run (hashCommands w msg).length s = .next t ∧ t.inputs = rest ∧ t.phase = .done ∧ t.outw = w ∧ t.busy = false
      ∧ (digestBytes t).take (digestLen w) = tigerHash msg w
      ∧ ((pins t).rst = false →
          digestO t = some (packBytes 192 (tigerHash msg w ++ List.replicate (24 - digestLen w) 0)))

/-- R164, R167, R162: the shorter digests are prefixes of the 192-bit one, and each has its length. -/
def Obligations.TruncationIsPrefix : Prop :=
  ∀ msg : List Byte,
    tigerHash msg .w160 = (tigerHash msg .w192).take 20 ∧ tigerHash msg .w128 = (tigerHash msg .w192).take 16
    ∧ (tigerHash msg .w192).length = 24 ∧ (tigerHash msg .w160).length = 20 ∧ (tigerHash msg .w128).length = 16

/-! ## What the ports cannot tell -/

/-- R35, R20, R23 to R25: two states that differ only in what is unspecified or hidden show the same on every port, and a step
takes them to results that again differ only there. So no such value ever reaches a port: not one the model chose at reset
(notes/assumptions/1.md), nor the free value of RC. -/
def Obligations.HiddenValuesNeverReachPorts : Prop :=
  ∀ s t : State, Agree s t → SamePorts s t ∧ AgreeResult (step s) (step t)

/-- R35: whatever A, B, C, AA, BB, CC, X, RC and BUF hold at reset, every run from reset goes the same way up to them, on every
sequence of pins. -/
def Obligations.ResetRegistersNeverObserved : Prop :=
  ∀ (k : Nat) (ins : List PortIn) (cv saved : Chain) (x : Sched) (rc : BitVec 5) (buf : Memory) (c : Nat),
    AgreeResult (run k { State.reset with inputs := ins })
      (run k { State.reset with inputs := ins, cv := cv, saved := saved, x := x, rc := rc, buf := buf, freeCount := c })
end

