-- ==== Sys2Proof/Laws/Bytes.lean ====
section
/-! SUPPORT. Lengths and small facts of the byte conversions, the padder and the operands. -/

namespace Sys2Proof.Machine

@[simp] theorem bytesLE_length (w : Word) : (bytesLE w).length = 8 := rfl

@[simp] theorem lengthField_length (w : Word) : (lengthField w).length = 8 := rfl

@[simp] theorem serialize_length (ch : Chain) : (serialize ch).length = 24 := rfl

@[simp] theorem lanes_length (arg : BitVec 4) (data : Word) : (lanes arg data).length = arg.toNat := by simp [lanes]

theorem lanes_getElem? {arg : BitVec 4} {data : Word} {j : Nat} (h : j < arg.toNat) :
    (lanes arg data)[j]? = some (bytek data j) := by simp [lanes, h]

theorem digestLen_le (w : Width) : digestLen w ≤ 24 := by cases w <;> decide

/-- Every frame of a tail of at most 63 bytes is a whole block. -/
theorem tailFrames_length {tail : List Byte} (len : Word) (h : tail.length ≤ 63) :
    ∀ frame ∈ tailFrames tail len, frame.length = 64 := by
  intro frame hf
  simp only [tailFrames] at hf
  split at hf
  · obtain rfl := List.mem_singleton.mp hf
    simp
    omega
  · rcases List.mem_pair.mp hf with rfl | rfl
    · simp
      omega
    · simp

/-- A tail takes one block when it has at most 55 bytes, else two (R101). -/
theorem tailFrames_count (tail : List Byte) (len : Word) :
    (tailFrames tail len).length = if tail.length ≤ 55 then 1 else 2 := by
  simp only [tailFrames]
  split <;> rfl

theorem fullBlocks_nil : fullBlocks [] = [] := rfl

theorem fullBlocks_count (bs : List Byte) : (fullBlocks bs).length = bs.length / 64 := by simp [fullBlocks]

/-- ARG selects a width exactly when it is legal (R72, R183). -/
theorem widthOf_eq_none {arg : BitVec 4} : widthOf arg = none ↔ 3 ≤ arg.toNat := by
  revert arg
  decide

end Sys2Proof.Machine
end

