-- ==== Sys2Proof/Laws/Decode.lean ====
section
/-! SUPPORT. The fields of an encoded command. -/

namespace Sys2Proof

theorem opOf_append (op arg : BitVec 4) (data : Word) : opOf (op ++ arg ++ data) = op := by
  ext i hi
  simp only [opOf, BitVec.getElem_extractLsb', BitVec.getLsbD_append]
  simp [show ¬ 68 + i < 64 by omega, show ¬ 68 + i - 64 < 4 by omega, show 68 + i - 64 - 4 = i by omega, hi]

theorem argOf_append (op arg : BitVec 4) (data : Word) : argOf (op ++ arg ++ data) = arg := by
  ext i hi
  simp only [argOf, BitVec.getElem_extractLsb', BitVec.getLsbD_append]
  simp [show ¬ 64 + i < 64 by omega, hi]

theorem dataOf_append (op arg : BitVec 4) (data : Word) : dataOf (op ++ arg ++ data) = data := by
  ext i hi
  simp only [dataOf, BitVec.getElem_extractLsb', BitVec.getLsbD_append]
  simp [hi]

end Sys2Proof
end

