-- ==== Sys2Proof/Laws/Memory.lean ====
section
/-! SUPPORT. BUF: read after write, and the canonical form kept by every memory operation. -/

namespace Sys2Proof.Machine

theorem readByte_memWrite_same (m : Memory) (p : Nat) (v : Byte) : readByte (memWrite m p v) p = some v := by
  induction m with
  | nil => simp [memWrite, readByte]
  | cons c m ih =>
    obtain ⟨q, u⟩ := c
    simp only [memWrite]
    split
    · simp [readByte]
    · split
      · simp [readByte]
      · have : q ≠ p := by omega
        simp [readByte, this, ih]

theorem readByte_memWrite_other {m : Memory} {p r : Nat} {v : Byte} (h : r ≠ p) :
    readByte (memWrite m p v) r = readByte m r := by
  induction m with
  | nil => simp [memWrite, readByte, Ne.symm h]
  | cons c m ih =>
    obtain ⟨q, u⟩ := c
    simp only [memWrite]
    split
    · simp [readByte, Ne.symm h]
    · split
      · subst p
        simp [readByte, Ne.symm h]
      · simp [readByte, ih]

/-- A read after a write gives the byte written there, and any other byte as before. -/
theorem readByte_memWrite (m : Memory) (p r : Nat) (v : Byte) :
    readByte (memWrite m p v) r = if r = p then some v else readByte m r := by
  split
  · subst r
    exact readByte_memWrite_same m p v
  · exact readByte_memWrite_other ‹_›

/-- An offset of the memory after a write is the one written or one that was there. -/
theorem mem_memWrite {m : Memory} {p : Nat} {v : Byte} {c : Host.Cell} (h : c ∈ memWrite m p v) : c = (p, v) ∨ c ∈ m := by
  induction m with
  | nil => simpa [memWrite] using h
  | cons d m ih =>
    obtain ⟨q, u⟩ := d
    simp only [memWrite] at h
    split at h
    · simpa using h
    · split at h
      · rcases List.mem_cons.mp h with h | h
        · exact .inl h
        · exact .inr (List.mem_cons_of_mem _ h)
      · rcases List.mem_cons.mp h with h | h
        · exact .inr (h ▸ List.mem_cons_self)
        · exact (ih h).imp id (List.mem_cons_of_mem _)

/-- A write below 64 keeps the canonical form. -/
theorem memWrite_wf {m : Memory} {p : Nat} {v : Byte} (h : m.wf) (hp : p < 64) : (memWrite m p v).wf := by
  refine ⟨?_, fun c hc => ?_⟩
  · obtain ⟨h, -⟩ := h
    induction m with
    | nil => simp [memWrite]
    | cons d m ih =>
      obtain ⟨q, u⟩ := d
      obtain ⟨hd, hm⟩ := List.pairwise_cons.mp h
      simp only [memWrite]
      split
      · refine List.pairwise_cons.mpr ⟨fun c hc => ?_, h⟩
        rcases List.mem_cons.mp hc with rfl | hc
        · assumption
        · have := hd c hc
          simp only at this ⊢
          omega
      · split
        · subst p
          exact List.pairwise_cons.mpr ⟨hd, hm⟩
        · refine List.pairwise_cons.mpr ⟨fun c hc => ?_, ih hm⟩
          rcases mem_memWrite hc with rfl | hc
          · simp only
            omega
          · exact hd c hc
  · rcases mem_memWrite hc with rfl | hc
    · exact hp
    · exact h.2 c hc

theorem empty_wf : Memory.wf [] := ⟨List.Pairwise.nil, by simp⟩

theorem zeroBuf_wf : zeroBuf.wf := by
  refine ⟨?_, fun c hc => ?_⟩
  · exact List.pairwise_map.mpr List.pairwise_lt_range
  · obtain ⟨p, hp, rfl⟩ := List.mem_map.mp hc
    exact List.mem_range.mp hp

theorem readByte_map_const (l : List Nat) (p : Nat) (v : Byte) :
    readByte (l.map fun q => (q, v)) p = if p ∈ l then some v else none := by
  induction l with
  | nil => simp [readByte]
  | cons q l ih =>
    by_cases h : q = p
    · simp [readByte, h]
    · simp [readByte, h, ih, Ne.symm h]

theorem readByte_zeroBuf {p : Nat} (hp : p < 64) : readByte zeroBuf p = some 0 := by
  rw [zeroBuf, readByte_map_const, if_pos (List.mem_range.mpr hp)]

/-- Below 64 is all there is: a canonical BUF has no byte past its end. -/
theorem readByte_none_of_wf {m : Memory} (h : m.wf) {p : Nat} (hp : 64 ≤ p) : readByte m p = none := by
  obtain ⟨-, h⟩ := h
  induction m with
  | nil => rfl
  | cons c m ih =>
    obtain ⟨q, u⟩ := c
    have hq : q < 64 := h (q, u) List.mem_cons_self
    have : q ≠ p := by omega
    simp [readByte, this, ih fun c hc => h c (List.mem_cons_of_mem _ hc)]

/-- MemRead answers a list exactly when it holds the bytes of the range, in order. -/
theorem memRead_eq_some {m : Memory} {p n : Nat} {bs : List Byte} :
    memRead m p n = some bs ↔ bs.length = n ∧ ∀ k, k < n → readByte m (p + k) = bs[k]? := by
  induction n generalizing p bs with
  | zero =>
    simp only [memRead, Option.some.injEq, Nat.not_lt_zero, false_implies, implies_true, and_true]
    exact ⟨fun h => h ▸ rfl, fun h => (List.length_eq_zero_iff.mp h).symm⟩
  | succ n ih =>
    simp only [memRead]
    cases hv : readByte m p with
    | none =>
      refine ⟨by simp, fun ⟨hl, h⟩ => ?_⟩
      have h0 := h 0 (by omega)
      rw [Nat.add_zero, hv] at h0
      have := List.getElem?_eq_none_iff.mp h0.symm
      omega
    | some v =>
      cases hr : memRead m (p + 1) n with
      | none =>
        refine ⟨by simp, fun ⟨hl, h⟩ => ?_⟩
        have : memRead m (p + 1) n = some bs.tail := by
          refine ih.mpr ⟨by simp [hl], fun k hk => ?_⟩
          have := h (k + 1) (by omega)
          rw [show p + (k + 1) = p + 1 + k by omega] at this
          simpa using this
        simp [hr] at this
      | some vs =>
        obtain ⟨hl, h⟩ := ih.mp hr
        constructor
        · rintro ⟨rfl⟩
          refine ⟨by simp [hl], fun k hk => ?_⟩
          cases k with
          | zero => simp [hv]
          | succ k =>
            have := h k (by omega)
            rw [show p + 1 + k = p + (k + 1) by omega] at this
            simpa using this
        · rintro ⟨hl', h'⟩
          have hb : bs = v :: bs.tail := by
            cases bs with
            | nil => simp at hl'
            | cons b bs =>
              have := h' 0 (by omega)
              rw [Nat.add_zero, hv] at this
              simpa using this.symm
          have ht : memRead m (p + 1) n = some bs.tail := by
            refine ih.mpr ⟨by simp [hl'], fun k hk => ?_⟩
            have := h' (k + 1) (by omega)
            rw [show p + (k + 1) = p + 1 + k by omega] at this
            simpa using this
          rw [hr, Option.some.injEq] at ht
          simp only [ht, ← hb]

theorem memRead_length {m : Memory} {p n : Nat} {bs : List Byte} (h : memRead m p n = some bs) : bs.length = n :=
  (memRead_eq_some.mp h).1

/-- MemRead answers when every byte of the range holds a value. -/
theorem memRead_of_isSome {m : Memory} {p n : Nat} (h : ∀ k, k < n → (readByte m (p + k)).isSome = true) :
    ∃ bs, memRead m p n = some bs := by
  induction n generalizing p with
  | zero => exact ⟨[], rfl⟩
  | succ n ih =>
    obtain ⟨v, hv⟩ := Option.isSome_iff_exists.mp (h 0 (by omega))
    obtain ⟨vs, hvs⟩ := ih (p := p + 1) fun k hk => by
      have := h (k + 1) (by omega)
      rwa [show p + (k + 1) = p + 1 + k by omega] at this
    rw [Nat.add_zero] at hv
    exact ⟨v :: vs, by simp [memRead, hv, hvs]⟩

/-- Writes cannot make a specified byte unspecified. -/
theorem isSome_memWrite {m : Memory} {p r : Nat} {v : Byte} (h : (readByte m r).isSome = true) :
    (readByte (memWrite m p v) r).isSome = true := by
  rw [readByte_memWrite]
  split
  · rfl
  · exact h

end Sys2Proof.Machine
end

