-- ==== Sys2Proof/Laws/State.lean ====
section
/-! SUPPORT. What each named update of the state does to each field, so that no later proof unfolds a record update. -/

namespace Sys2Proof.Machine

@[simp] theorem raiseError_cv (code : ErrCode) (s : State) : (raiseError code s).cv = s.cv := rfl
@[simp] theorem raiseError_saved (code : ErrCode) (s : State) : (raiseError code s).saved = s.saved := rfl
@[simp] theorem raiseError_x (code : ErrCode) (s : State) : (raiseError code s).x = s.x := rfl
@[simp] theorem raiseError_rc (code : ErrCode) (s : State) : (raiseError code s).rc = s.rc := rfl
@[simp] theorem raiseError_buf (code : ErrCode) (s : State) : (raiseError code s).buf = s.buf := rfl
@[simp] theorem raiseError_len (code : ErrCode) (s : State) : (raiseError code s).len = s.len := rfl
@[simp] theorem raiseError_blkcnt (code : ErrCode) (s : State) : (raiseError code s).blkcnt = s.blkcnt := rfl
@[simp] theorem raiseError_phase (code : ErrCode) (s : State) : (raiseError code s).phase = s.phase := rfl
@[simp] theorem raiseError_outw (code : ErrCode) (s : State) : (raiseError code s).outw = s.outw := rfl
@[simp] theorem raiseError_err (code : ErrCode) (s : State) : (raiseError code s).err = true := rfl
@[simp] theorem raiseError_errcode (code : ErrCode) (s : State) : (raiseError code s).errcode = code := rfl
@[simp] theorem raiseError_busy (code : ErrCode) (s : State) : (raiseError code s).busy = s.busy := rfl
@[simp] theorem raiseError_inputs (code : ErrCode) (s : State) : (raiseError code s).inputs = s.inputs := rfl
@[simp] theorem raiseError_freeCount (code : ErrCode) (s : State) : (raiseError code s).freeCount = s.freeCount := rfl

@[simp] theorem startMessage_cv (w : Width) (s : State) : (startMessage w s).cv = iv := rfl
@[simp] theorem startMessage_saved (w : Width) (s : State) : (startMessage w s).saved = s.saved := rfl
@[simp] theorem startMessage_x (w : Width) (s : State) : (startMessage w s).x = s.x := rfl
@[simp] theorem startMessage_rc (w : Width) (s : State) : (startMessage w s).rc = s.rc := rfl
@[simp] theorem startMessage_buf (w : Width) (s : State) : (startMessage w s).buf = zeroBuf := rfl
@[simp] theorem startMessage_len (w : Width) (s : State) : (startMessage w s).len = 0 := rfl
@[simp] theorem startMessage_blkcnt (w : Width) (s : State) : (startMessage w s).blkcnt = 0 := rfl
@[simp] theorem startMessage_phase (w : Width) (s : State) : (startMessage w s).phase = .absorb := rfl
@[simp] theorem startMessage_outw (w : Width) (s : State) : (startMessage w s).outw = w := rfl
@[simp] theorem startMessage_err (w : Width) (s : State) : (startMessage w s).err = false := rfl
@[simp] theorem startMessage_errcode (w : Width) (s : State) : (startMessage w s).errcode = .noError := rfl
@[simp] theorem startMessage_busy (w : Width) (s : State) : (startMessage w s).busy = s.busy := rfl
@[simp] theorem startMessage_inputs (w : Width) (s : State) : (startMessage w s).inputs = s.inputs := rfl
@[simp] theorem startMessage_freeCount (w : Width) (s : State) : (startMessage w s).freeCount = s.freeCount := rfl

@[simp] theorem rejectWidth_cv (s : State) : (rejectWidth s).cv = s.cv := rfl
@[simp] theorem rejectWidth_saved (s : State) : (rejectWidth s).saved = s.saved := rfl
@[simp] theorem rejectWidth_x (s : State) : (rejectWidth s).x = s.x := rfl
@[simp] theorem rejectWidth_rc (s : State) : (rejectWidth s).rc = s.rc := rfl
@[simp] theorem rejectWidth_buf (s : State) : (rejectWidth s).buf = s.buf := rfl
@[simp] theorem rejectWidth_len (s : State) : (rejectWidth s).len = s.len := rfl
@[simp] theorem rejectWidth_blkcnt (s : State) : (rejectWidth s).blkcnt = s.blkcnt := rfl
@[simp] theorem rejectWidth_phase (s : State) : (rejectWidth s).phase = .idle := rfl
@[simp] theorem rejectWidth_outw (s : State) : (rejectWidth s).outw = s.outw := rfl
@[simp] theorem rejectWidth_err (s : State) : (rejectWidth s).err = true := rfl
@[simp] theorem rejectWidth_errcode (s : State) : (rejectWidth s).errcode = .badWidth := rfl
@[simp] theorem rejectWidth_busy (s : State) : (rejectWidth s).busy = s.busy := rfl
@[simp] theorem rejectWidth_inputs (s : State) : (rejectWidth s).inputs = s.inputs := rfl
@[simp] theorem rejectWidth_freeCount (s : State) : (rejectWidth s).freeCount = s.freeCount := rfl

@[simp] theorem compressBlock_cv (block : List Byte) (s : State) : (compressBlock block s).cv = compress s.cv (blockWords block) := rfl
@[simp] theorem compressBlock_saved (block : List Byte) (s : State) : (compressBlock block s).saved = s.cv := rfl
@[simp] theorem compressBlock_x (block : List Byte) (s : State) : (compressBlock block s).x = keySchedule (keySchedule (blockWords block)) := rfl
@[simp] theorem compressBlock_rc (block : List Byte) (s : State) : (compressBlock block s).rc = Config.freeRoundCounter s.freeCount := rfl
@[simp] theorem compressBlock_buf (block : List Byte) (s : State) : (compressBlock block s).buf = s.buf := rfl
@[simp] theorem compressBlock_len (block : List Byte) (s : State) : (compressBlock block s).len = s.len := rfl
@[simp] theorem compressBlock_blkcnt (block : List Byte) (s : State) : (compressBlock block s).blkcnt = s.blkcnt + 1 := rfl
@[simp] theorem compressBlock_phase (block : List Byte) (s : State) : (compressBlock block s).phase = s.phase := rfl
@[simp] theorem compressBlock_outw (block : List Byte) (s : State) : (compressBlock block s).outw = s.outw := rfl
@[simp] theorem compressBlock_err (block : List Byte) (s : State) : (compressBlock block s).err = s.err := rfl
@[simp] theorem compressBlock_errcode (block : List Byte) (s : State) : (compressBlock block s).errcode = s.errcode := rfl
@[simp] theorem compressBlock_busy (block : List Byte) (s : State) : (compressBlock block s).busy = s.busy := rfl
@[simp] theorem compressBlock_inputs (block : List Byte) (s : State) : (compressBlock block s).inputs = s.inputs := rfl
@[simp] theorem compressBlock_freeCount (block : List Byte) (s : State) : (compressBlock block s).freeCount = s.freeCount + 1 := rfl

@[simp] theorem storeByte_cv (b : Byte) (s : State) : (storeByte b s).cv = s.cv := rfl
@[simp] theorem storeByte_saved (b : Byte) (s : State) : (storeByte b s).saved = s.saved := rfl
@[simp] theorem storeByte_x (b : Byte) (s : State) : (storeByte b s).x = s.x := rfl
@[simp] theorem storeByte_rc (b : Byte) (s : State) : (storeByte b s).rc = s.rc := rfl
@[simp] theorem storeByte_buf (b : Byte) (s : State) : (storeByte b s).buf = memWrite s.buf (bufOffset s) b := rfl
@[simp] theorem storeByte_len (b : Byte) (s : State) : (storeByte b s).len = s.len + 1 := rfl
@[simp] theorem storeByte_blkcnt (b : Byte) (s : State) : (storeByte b s).blkcnt = s.blkcnt := rfl
@[simp] theorem storeByte_phase (b : Byte) (s : State) : (storeByte b s).phase = s.phase := rfl
@[simp] theorem storeByte_outw (b : Byte) (s : State) : (storeByte b s).outw = s.outw := rfl
@[simp] theorem storeByte_err (b : Byte) (s : State) : (storeByte b s).err = s.err := rfl
@[simp] theorem storeByte_errcode (b : Byte) (s : State) : (storeByte b s).errcode = s.errcode := rfl
@[simp] theorem storeByte_busy (b : Byte) (s : State) : (storeByte b s).busy = s.busy := rfl
@[simp] theorem storeByte_inputs (b : Byte) (s : State) : (storeByte b s).inputs = s.inputs := rfl
@[simp] theorem storeByte_freeCount (b : Byte) (s : State) : (storeByte b s).freeCount = s.freeCount := rfl

@[simp] theorem acceptCommand_cv (s : State) : (acceptCommand s).cv = s.cv := rfl
@[simp] theorem acceptCommand_saved (s : State) : (acceptCommand s).saved = s.saved := rfl
@[simp] theorem acceptCommand_x (s : State) : (acceptCommand s).x = s.x := rfl
@[simp] theorem acceptCommand_rc (s : State) : (acceptCommand s).rc = s.rc := rfl
@[simp] theorem acceptCommand_buf (s : State) : (acceptCommand s).buf = s.buf := rfl
@[simp] theorem acceptCommand_len (s : State) : (acceptCommand s).len = s.len := rfl
@[simp] theorem acceptCommand_blkcnt (s : State) : (acceptCommand s).blkcnt = s.blkcnt := rfl
@[simp] theorem acceptCommand_phase (s : State) : (acceptCommand s).phase = s.phase := rfl
@[simp] theorem acceptCommand_outw (s : State) : (acceptCommand s).outw = s.outw := rfl
@[simp] theorem acceptCommand_err (s : State) : (acceptCommand s).err = s.err := rfl
@[simp] theorem acceptCommand_errcode (s : State) : (acceptCommand s).errcode = s.errcode := rfl
@[simp] theorem acceptCommand_busy (s : State) : (acceptCommand s).busy = true := rfl
@[simp] theorem acceptCommand_inputs (s : State) : (acceptCommand s).inputs = s.inputs := rfl
@[simp] theorem acceptCommand_freeCount (s : State) : (acceptCommand s).freeCount = s.freeCount := rfl

@[simp] theorem passEdge_cv (s : State) : (passEdge s).cv = s.cv := rfl
@[simp] theorem passEdge_saved (s : State) : (passEdge s).saved = s.saved := rfl
@[simp] theorem passEdge_x (s : State) : (passEdge s).x = s.x := rfl
@[simp] theorem passEdge_rc (s : State) : (passEdge s).rc = s.rc := rfl
@[simp] theorem passEdge_buf (s : State) : (passEdge s).buf = s.buf := rfl
@[simp] theorem passEdge_len (s : State) : (passEdge s).len = s.len := rfl
@[simp] theorem passEdge_blkcnt (s : State) : (passEdge s).blkcnt = s.blkcnt := rfl
@[simp] theorem passEdge_phase (s : State) : (passEdge s).phase = s.phase := rfl
@[simp] theorem passEdge_outw (s : State) : (passEdge s).outw = s.outw := rfl
@[simp] theorem passEdge_err (s : State) : (passEdge s).err = s.err := rfl
@[simp] theorem passEdge_errcode (s : State) : (passEdge s).errcode = s.errcode := rfl
@[simp] theorem passEdge_busy (s : State) : (passEdge s).busy = s.busy := rfl
@[simp] theorem passEdge_inputs (s : State) : (passEdge s).inputs = s.inputs.tail := rfl
@[simp] theorem passEdge_freeCount (s : State) : (passEdge s).freeCount = s.freeCount := rfl

@[simp] theorem resetCore_cv (s : State) : (resetCore s).cv = State.reset.cv := rfl
@[simp] theorem resetCore_saved (s : State) : (resetCore s).saved = State.reset.saved := rfl
@[simp] theorem resetCore_x (s : State) : (resetCore s).x = State.reset.x := rfl
@[simp] theorem resetCore_rc (s : State) : (resetCore s).rc = State.reset.rc := rfl
@[simp] theorem resetCore_buf (s : State) : (resetCore s).buf = State.reset.buf := rfl
@[simp] theorem resetCore_len (s : State) : (resetCore s).len = State.reset.len := rfl
@[simp] theorem resetCore_blkcnt (s : State) : (resetCore s).blkcnt = State.reset.blkcnt := rfl
@[simp] theorem resetCore_phase (s : State) : (resetCore s).phase = State.reset.phase := rfl
@[simp] theorem resetCore_outw (s : State) : (resetCore s).outw = State.reset.outw := rfl
@[simp] theorem resetCore_err (s : State) : (resetCore s).err = State.reset.err := rfl
@[simp] theorem resetCore_errcode (s : State) : (resetCore s).errcode = State.reset.errcode := rfl
@[simp] theorem resetCore_busy (s : State) : (resetCore s).busy = State.reset.busy := rfl
@[simp] theorem resetCore_inputs (s : State) : (resetCore s).inputs = s.inputs := rfl
@[simp] theorem resetCore_freeCount (s : State) : (resetCore s).freeCount = s.freeCount := rfl

/-- Two states with the same fields are the same state. -/
theorem state_ext {s t : State} (cv : s.cv = t.cv) (saved : s.saved = t.saved) (x : s.x = t.x) (rc : s.rc = t.rc)
    (buf : s.buf = t.buf) (len : s.len = t.len) (blkcnt : s.blkcnt = t.blkcnt) (phase : s.phase = t.phase)
    (outw : s.outw = t.outw) (err : s.err = t.err) (errcode : s.errcode = t.errcode) (busy : s.busy = t.busy)
    (inputs : s.inputs = t.inputs) (freeCount : s.freeCount = t.freeCount) : s = t := by
  cases s
  cases t
  simp_all

end Sys2Proof.Machine
end

