-- ==== Sys2Proof/Laws/Ops.lean ====
section
/-! SUPPORT. For each shared operation, one lemma that says what it can do. -/

namespace Sys2Proof.Machine

theorem bufOffset_lt (s : State) : bufOffset s < 64 := Nat.mod_lt _ (by decide)

/-- The checks that ABSORB and FINAL share answer in one of four ways (R181). -/
theorem inOpenMessage_cases (argLegal : Bool) (s : State) (act : Result) :
    (s.err = true ∧ inOpenMessage argLegal s act = .next s)
    ∨ (s.err = false ∧ argLegal = false ∧ inOpenMessage argLegal s act = .next (raiseError .badArg s))
    ∨ (s.err = false ∧ argLegal = true ∧ s.phase ≠ .absorb ∧ inOpenMessage argLegal s act = .next (raiseError .badSeq s))
    ∨ (s.err = false ∧ argLegal = true ∧ s.phase = .absorb ∧ inOpenMessage argLegal s act = act) := by
  unfold inOpenMessage
  cases s.err <;> cases argLegal <;> by_cases h : s.phase = .absorb <;> simp [h]

theorem inOpenMessage_open {argLegal : Bool} {s : State} {act : Result} (he : s.err = false) (ha : argLegal = true)
    (hp : s.phase = .absorb) : inOpenMessage argLegal s act = act := by
  simp [inOpenMessage, he, ha, hp]

/-- A reserved opcode records BAD_OP or, under a sticky error, does nothing (R186, R223). -/
theorem reservedOpcode_eq (s : State) : reservedOpcode s = .next (if s.err then s else raiseError .badOp s) := by
  unfold reservedOpcode
  cases s.err <;> rfl

/-- One byte of ABSORB stores the byte and, if that completes a block, compresses the block (R184). -/
theorem absorbByte_cases {b : Byte} {s t : State} (h : absorbByte b s = some t) :
    (bufOffset (storeByte b s) ≠ 0 ∧ t = storeByte b s)
    ∨ (bufOffset (storeByte b s) = 0 ∧
        ∃ block, memRead (storeByte b s).buf 0 64 = some block ∧ t = compressBlock block (storeByte b s)) := by
  simp only [absorbByte] at h
  split at h
  · obtain ⟨block, hb, rfl⟩ := Option.map_eq_some_iff.mp h
    exact .inr ⟨‹_›, block, hb, rfl⟩
  · exact .inl ⟨‹_›, (Option.some.inj h).symm⟩

/-- What absorbing a byte keeps: the control state, the pins, the canonical form, and that BUF is specified. -/
structure AbsorbKeeps (s t : State) : Prop where
  phase : t.phase = s.phase
  outw : t.outw = s.outw
  err : t.err = s.err
  errcode : t.errcode = s.errcode
  busy : t.busy = s.busy
  inputs : t.inputs = s.inputs
  wf : s.buf.wf → t.buf.wf
  specified : BufSpecified s → BufSpecified t

theorem AbsorbKeeps.refl (s : State) : AbsorbKeeps s s := ⟨rfl, rfl, rfl, rfl, rfl, rfl, id, id⟩

theorem AbsorbKeeps.trans {s t u : State} (h : AbsorbKeeps s t) (k : AbsorbKeeps t u) : AbsorbKeeps s u :=
  ⟨k.phase.trans h.phase, k.outw.trans h.outw, k.err.trans h.err, k.errcode.trans h.errcode, k.busy.trans h.busy,
    k.inputs.trans h.inputs, k.wf ∘ h.wf, k.specified ∘ h.specified⟩

theorem storeByte_keeps (b : Byte) (s : State) : AbsorbKeeps s (storeByte b s) :=
  ⟨rfl, rfl, rfl, rfl, rfl, rfl, fun h => memWrite_wf h (bufOffset_lt s), fun h p hp => isSome_memWrite (h p hp)⟩

theorem compressBlock_keeps (block : List Byte) (s : State) : AbsorbKeeps s (compressBlock block s) :=
  ⟨rfl, rfl, rfl, rfl, rfl, rfl, id, id⟩

theorem absorbByte_keeps {b : Byte} {s t : State} (h : absorbByte b s = some t) : AbsorbKeeps s t := by
  rcases absorbByte_cases h with ⟨-, rfl⟩ | ⟨-, block, -, rfl⟩
  · exact storeByte_keeps b s
  · exact (storeByte_keeps b s).trans (compressBlock_keeps block _)

theorem absorbBytes_keeps {bs : List Byte} {s t : State} (h : absorbBytes bs s = some t) : AbsorbKeeps s t := by
  induction bs generalizing s with
  | nil => exact Option.some.inj h ▸ AbsorbKeeps.refl s
  | cons b bs ih =>
    obtain ⟨u, hu, ht⟩ := Option.bind_eq_some_iff.mp h
    exact (absorbByte_keeps hu).trans (ih ht)

/-- Absorbing completes when every byte of BUF holds a value. -/
theorem absorbBytes_completes {bs : List Byte} {s : State} (h : BufSpecified s) : ∃ t, absorbBytes bs s = some t := by
  induction bs generalizing s with
  | nil => exact ⟨s, rfl⟩
  | cons b bs ih =>
    have hs : BufSpecified (storeByte b s) := (storeByte_keeps b s).specified h
    obtain ⟨u, hu⟩ : ∃ u, absorbByte b s = some u := by
      simp only [absorbByte]
      split
      · obtain ⟨block, hb⟩ : ∃ block, memRead (storeByte b s).buf 0 64 = some block :=
          memRead_of_isSome fun k hk => by rw [Nat.zero_add]; exact hs k hk
        exact ⟨_, by rw [hb]; rfl⟩
      · exact ⟨_, rfl⟩
    obtain ⟨t, ht⟩ := ih ((absorbByte_keeps hu).specified h)
    exact ⟨t, by simp [absorbBytes, hu, ht]⟩

/-- LEN counts the bytes absorbed (R26). -/
theorem absorbBytes_len {bs : List Byte} {s t : State} (h : absorbBytes bs s = some t) :
    t.len = s.len + BitVec.ofNat 64 bs.length := by
  induction bs generalizing s with
  | nil => obtain rfl := Option.some.inj h; simp
  | cons b bs ih =>
    obtain ⟨u, hu, ht⟩ := Option.bind_eq_some_iff.mp h
    have hl : u.len = s.len + 1 := by
      rcases absorbByte_cases hu with ⟨-, rfl⟩ | ⟨-, block, -, rfl⟩ <;> rfl
    rw [ih ht, hl, List.length_cons, BitVec.add_assoc, BitVec.ofNat_add, BitVec.add_comm (1 : Word)]
    rfl

/-- What compressing frames changes: the chaining value is folded over them and BLKCNT counts them (R131). -/
theorem compressFrames_cv (frames : List (List Byte)) (s : State) :
    (compressFrames frames s).cv = foldBlocks s.cv frames := by
  induction frames generalizing s with
  | nil => rfl
  | cons f fs ih => exact ih (compressBlock f s)

theorem compressFrames_blkcnt (frames : List (List Byte)) (s : State) :
    (compressFrames frames s).blkcnt = s.blkcnt + BitVec.ofNat 64 frames.length := by
  induction frames generalizing s with
  | nil => simp [compressFrames]
  | cons f fs ih =>
    show (compressFrames fs (compressBlock f s)).blkcnt = _
    rw [ih, compressBlock_blkcnt, List.length_cons, BitVec.add_assoc, BitVec.ofNat_add, BitVec.add_comm (1 : Word)]
    rfl

theorem compressFrames_len (frames : List (List Byte)) (s : State) : (compressFrames frames s).len = s.len := by
  induction frames generalizing s with
  | nil => rfl
  | cons f fs ih => exact ih (compressBlock f s)

theorem compressFrames_keeps (frames : List (List Byte)) (s : State) : AbsorbKeeps s (compressFrames frames s) := by
  induction frames generalizing s with
  | nil => exact AbsorbKeeps.refl s
  | cons f fs ih => exact (compressBlock_keeps f s).trans (ih _)

/-- Everything FINAL's effect does to what the ports show and the pins (R185). -/
theorem finishMessage_spec (tail : List Byte) (s : State) :
    (finishMessage tail s).cv = foldBlocks s.cv (tailFrames tail s.len)
    ∧ (finishMessage tail s).blkcnt = s.blkcnt + BitVec.ofNat 64 (if tail.length ≤ 55 then 1 else 2)
    ∧ (finishMessage tail s).phase = .done ∧ (finishMessage tail s).buf = []
    ∧ (finishMessage tail s).len = s.len ∧ (finishMessage tail s).outw = s.outw
    ∧ (finishMessage tail s).err = s.err ∧ (finishMessage tail s).errcode = s.errcode
    ∧ (finishMessage tail s).busy = s.busy ∧ (finishMessage tail s).inputs = s.inputs := by
  have k := compressFrames_keeps (tailFrames tail s.len) s
  refine ⟨compressFrames_cv _ s, ?_, rfl, rfl, compressFrames_len _ s, k.outw, k.err, k.errcode, k.busy, k.inputs⟩
  show (compressFrames _ s).blkcnt = _
  rw [compressFrames_blkcnt, tailFrames_count]

/-- INIT answers in one of two ways (R183). -/
theorem execInit_cases (arg : BitVec 4) (s : State) :
    (∃ w, widthOf arg = some w ∧ execInit arg s = .next (startMessage w s))
    ∨ (3 ≤ arg.toNat ∧ execInit arg s = .next (rejectWidth s)) := by
  unfold execInit
  cases h : widthOf arg with
  | none => exact .inr ⟨widthOf_eq_none.mp h, rfl⟩
  | some w => exact .inl ⟨w, rfl, rfl⟩

theorem execAbsorb_open {arg : BitVec 4} {data : Word} {s : State} (he : s.err = false) (ha : legalCountArg arg = true)
    (hp : s.phase = .absorb) : execAbsorb arg data s = orFault (absorbBytes (lanes arg data) s) :=
  inOpenMessage_open he ha hp

theorem execFinal_open {s : State} (he : s.err = false) (hp : s.phase = .absorb) :
    execFinal 0 s = orFault ((memRead s.buf 0 (bufOffset s)).map fun tail => finishMessage tail s) :=
  inOpenMessage_open he rfl hp

theorem orFault_eq_next {o : Option State} {t : State} : orFault o = .next t ↔ o = some t := by
  cases o <;> simp [orFault]

/-- Every reserved opcode has the one meaning of R186. -/
theorem exec_reserved {i : Instr} (h : i.isReserved = true) (s : State) : exec i s = reservedOpcode s := by
  cases i <;> first | rfl | exact absurd h (by simp [Instr.isReserved, Instr.opcode])

/-- A command is NOP, INIT, ABSORB, FINAL or a reserved opcode (R74). -/
theorem instr_cases (i : Instr) :
    i = .nop ∨ (∃ arg, i = .init arg) ∨ (∃ n data, i = .absorb n data) ∨ (∃ arg, i = .final arg) ∨ i.isReserved = true := by
  cases i <;> simp [Instr.isReserved, Instr.opcode]

/-- Every way an INIT can end (R183). -/
theorem exec_init_next {arg : BitVec 4} {s t : State} (h : exec (.init arg) s = .next t) :
    (arg.toNat ≤ 2 ∧ ∃ w, widthOf arg = some w ∧ t = startMessage w s) ∨ (3 ≤ arg.toNat ∧ t = rejectWidth s) := by
  replace h : execInit arg s = .next t := h
  rcases execInit_cases arg s with ⟨w, hw, e⟩ | ⟨ha, e⟩ <;> rw [e, Host.Outcome.next.injEq] at h
  · have : ¬3 ≤ arg.toNat := fun hc => by simp [widthOf_eq_none.mpr hc] at hw
    exact .inl ⟨by omega, w, hw, h.symm⟩
  · exact .inr ⟨ha, h.symm⟩

/-- Every way an ABSORB can go on (R181, R184). -/
theorem exec_absorb_next {n : BitVec 4} {data : Word} {s t : State} (h : exec (.absorb n data) s = .next t) :
    (s.err = true ∧ t = s)
    ∨ (s.err = false ∧ ¬(1 ≤ n.toNat ∧ n.toNat ≤ 8) ∧ t = raiseError .badArg s)
    ∨ (s.err = false ∧ (1 ≤ n.toNat ∧ n.toNat ≤ 8) ∧ s.phase ≠ .absorb ∧ t = raiseError .badSeq s)
    ∨ (s.err = false ∧ (1 ≤ n.toNat ∧ n.toNat ≤ 8) ∧ s.phase = .absorb ∧ absorbBytes (lanes n data) s = some t) := by
  replace h : inOpenMessage _ s _ = .next t := h
  rcases inOpenMessage_cases (legalCountArg n) s (orFault (absorbBytes (lanes n data) s)) with
    ⟨he, e⟩ | ⟨he, ha, e⟩ | ⟨he, ha, hp, e⟩ | ⟨he, ha, hp, e⟩ <;> rw [e] at h
  · exact .inl ⟨he, (Host.Outcome.next.inj h).symm⟩
  · exact .inr (.inl ⟨he, by simpa [legalCountArg] using ha, (Host.Outcome.next.inj h).symm⟩)
  · exact .inr (.inr (.inl ⟨he, by simpa [legalCountArg] using ha, hp, (Host.Outcome.next.inj h).symm⟩))
  · exact .inr (.inr (.inr ⟨he, by simpa [legalCountArg] using ha, hp, orFault_eq_next.mp h⟩))

/-- Every way a FINAL can go on (R181, R185). -/
theorem exec_final_next {arg : BitVec 4} {s t : State} (h : exec (.final arg) s = .next t) :
    (s.err = true ∧ t = s)
    ∨ (s.err = false ∧ arg ≠ 0 ∧ t = raiseError .badArg s)
    ∨ (s.err = false ∧ arg = 0 ∧ s.phase ≠ .absorb ∧ t = raiseError .badSeq s)
    ∨ (s.err = false ∧ arg = 0 ∧ s.phase = .absorb ∧
        ∃ tail, memRead s.buf 0 (bufOffset s) = some tail ∧ t = finishMessage tail s) := by
  replace h : inOpenMessage _ s _ = .next t := h
  rcases inOpenMessage_cases (legalFinalArg arg) s
      (orFault ((memRead s.buf 0 (bufOffset s)).map fun tail => finishMessage tail s)) with
    ⟨he, e⟩ | ⟨he, ha, e⟩ | ⟨he, ha, hp, e⟩ | ⟨he, ha, hp, e⟩ <;> rw [e] at h
  · exact .inl ⟨he, (Host.Outcome.next.inj h).symm⟩
  · exact .inr (.inl ⟨he, by simpa [legalFinalArg] using ha, (Host.Outcome.next.inj h).symm⟩)
  · exact .inr (.inr (.inl ⟨he, by simpa [legalFinalArg] using ha, hp, (Host.Outcome.next.inj h).symm⟩))
  · obtain ⟨tail, ht, hf⟩ := Option.map_eq_some_iff.mp (orFault_eq_next.mp h)
    exact .inr (.inr (.inr ⟨he, by simpa [legalFinalArg] using ha, hp, tail, ht, hf.symm⟩))

/-- Every way a reserved opcode can end (R186, R223). -/
theorem exec_reserved_next {i : Instr} {s t : State} (hi : i.isReserved = true) (h : exec i s = .next t) :
    (s.err = true ∧ t = s) ∨ (s.err = false ∧ t = raiseError .badOp s) := by
  rw [exec_reserved hi, reservedOpcode_eq, Host.Outcome.next.injEq] at h
  cases he : s.err <;> simp [he] at h
  · exact .inr ⟨rfl, h.symm⟩
  · exact .inl ⟨rfl, h.symm⟩

/-- Every way a step can end (R180, R250, R259). -/
theorem step_cases (s : State) :
    ((pins s).rst = true ∧ step s = .next (resetCore (passEdge s)))
    ∨ ((pins s).rst = false ∧ s.busy = true ∧ step s = .refused .commandInProgress)
    ∨ ((pins s).rst = false ∧ s.busy = false ∧ (pins s).cmdValid = false ∧ step s = .next (passEdge s))
    ∨ ((pins s).rst = false ∧ s.busy = false ∧ (pins s).cmdValid = true
        ∧ step s = completeCommand (exec (decode (pins s).cmdWord) (acceptCommand (passEdge s)))) := by
  unfold step
  cases (pins s).rst <;> cases s.busy <;> cases (pins s).cmdValid <;> simp

/-- What a command does to BUSY beyond its own effect: completion clears it (R31). -/
theorem completeCommand_eq_next {r : Result} {t : State} :
    completeCommand r = .next t ↔ ∃ u, r = .next u ∧ t = { u with busy := false } := by
  cases r <;> simp [completeCommand, eq_comm]

/-- A run goes on from the state its first step answers. -/
theorem run_succ {k : Nat} {s t : State} (h : step s = .next t) : run (k + 1) s = run k t := by
  have h' : core.step s = .next t := h
  simp only [run, Host.Core.run, h']
  rfl

theorem run_zero (s : State) : run 0 s = .next s := rfl

end Sys2Proof.Machine
end

