-- ==== Sys2Proof/Laws/PerInstr.lean ====
section
/-! SUPPORT. Statements made once per command. -/

namespace Sys2Proof.Laws.RowPattern

/-- The encoded command matches its row of spec/opcode_table.json: word AND mask = match (R73). -/
def Statement (i : Instr) : Prop := encode i &&& opMask = rowPattern i

/-- ANDing with the mask keeps OP and clears the rest. -/
theorem and_opMask (op arg : BitVec 4) (data : Word) :
    (op ++ arg ++ data : BitVec (4 + 4 + 64)) &&& (BitVec.allOnes 4 ++ 0#4 ++ 0#64) =
      op ++ 0#4 ++ 0#64 := by
  rw [BitVec.and_append, BitVec.and_append, BitVec.and_allOnes, BitVec.and_zero, BitVec.and_zero]

theorem statement_of (i : Instr) (h : i.opcode ++ 0#4 ++ 0#64 = rowPattern i) : Statement i :=
  (and_opMask _ _ _).trans h

theorem nop : Statement .nop := statement_of _ rfl

theorem init (arg : BitVec 4) : Statement (.init arg) :=
  statement_of _ (show 1#4 ++ 0#4 ++ 0#64 = rowPattern _ by rw [rowPattern]; decide)

theorem absorb (arg : BitVec 4) (data : Word) : Statement (.absorb arg data) :=
  statement_of _ (show 2#4 ++ 0#4 ++ 0#64 = rowPattern _ by rw [rowPattern]; decide)

theorem final (arg : BitVec 4) : Statement (.final arg) :=
  statement_of _ (show 3#4 ++ 0#4 ++ 0#64 = rowPattern _ by rw [rowPattern]; decide)

theorem reserved4 : Statement .reserved4 := statement_of _ rfl

theorem reserved5 : Statement .reserved5 := statement_of _ rfl

theorem reserved6 : Statement .reserved6 := statement_of _ rfl

theorem reserved7 : Statement .reserved7 := statement_of _ rfl

theorem reserved8 : Statement .reserved8 := statement_of _ rfl

theorem reserved9 : Statement .reserved9 := statement_of _ rfl

theorem reservedA : Statement .reservedA := statement_of _ rfl

theorem reservedB : Statement .reservedB := statement_of _ rfl

theorem reservedC : Statement .reservedC := statement_of _ rfl

theorem reservedD : Statement .reservedD := statement_of _ rfl

theorem reservedE : Statement .reservedE := statement_of _ rfl

theorem reservedF : Statement .reservedF := statement_of _ rfl

end Sys2Proof.Laws.RowPattern
end

