-- ==== Sys2Proof/Tests/Slice0.lean ====
section
/-! SUPPORT. Tests of the model against values the spec gives (spec/95_test_vectors.md and the examples of its rules), and a
witness for the hypotheses of each statement. -/

namespace Sys2Proof.Tests

open Machine

/-! ## Helpers -/

/-- A message of width w is open and nothing is absorbed. -/
def opened (w : Width) : State := startMessage w State.reset

/-- k < 64 bytes `v` have been absorbed since INIT. -/
def openAt (k : Nat) (v : Byte) : State :=
  { opened .w192 with len := BitVec.ofNat 64 k, buf := (List.range 64).map fun p => (p, if p < k then v else 0) }

/-- An error is recorded. -/
def errored : State := raiseError .badOp State.reset

/-- A finished message of width w with the chaining value of the empty message (P1). -/
def finished (w : Width) : State :=
  { opened w with phase := .done, buf := [], cv := ⟨0x24F0130C63AC9332, 0x16166E76B1BB925F, 0xF373DE2D49584E7A⟩ }

/-- The next state of a result, if there is one. -/
def nextOf : Result → Option State
  | .next s => some s
  | .fault _ => none
  | .refused _ => none

/-- STATUS after one command. -/
def statusAfter (w : Command) (s : State) : Option (BitVec 32) := (nextOf (exec (decode w) s)).bind statusO

/-! ## The legal encodings: an ill-formed term for each check -/

theorem test_illegal_width_refused : (Instr.init 3).wellFormed = false := by decide
theorem test_count_zero_refused : (Instr.absorb 0 0).wellFormed = false := by decide
theorem test_count_nine_refused : (Instr.absorb 9 0).wellFormed = false := by decide
theorem test_final_arg_refused : (Instr.final 1).wellFormed = false := by decide
theorem test_reserved_refused : Instr.reserved4.wellFormed = false := by decide
theorem test_legal_accepted :
    Instr.nop.wellFormed = true ∧ (Instr.init 2).wellFormed = true ∧ (Instr.absorb 8 0).wellFormed = true
      ∧ (Instr.final 0).wellFormed = true := by decide

/-! ## Decoding: words of R71, R183, R184, R185, V-CMD and P1 to P6; the reserved ones by R73 -/

theorem test_decode_nop : decode 0x0FFFFFFFFFFFFFFFFF = .nop := by decide
theorem test_decode_init :
    decode 0x100000000000000000 = .init 0 ∧ decode 0x110000000000000000 = .init 1
      ∧ decode 0x1F0000000000000000 = .init 15 := by decide
theorem test_decode_absorb :
    decode 0x230000000000636261 = .absorb 3 0x636261 ∧ decode 0x280706050403020100 = .absorb 8 0x0706050403020100 := by
  decide
theorem test_decode_final : decode 0x300000000000000000 = .final 0 ∧ decode 0x310000000000000000 = .final 1 := by decide
theorem test_decode_reserved_4_to_9 :
    decode 0x400000000000000000 = .reserved4 ∧ decode 0x500000000000000000 = .reserved5
      ∧ decode 0x600000000000000000 = .reserved6 ∧ decode 0x700000000000000000 = .reserved7
      ∧ decode 0x800000000000000000 = .reserved8 ∧ decode 0x900000000000000000 = .reserved9 := by decide
theorem test_decode_reserved_A_to_F :
    decode 0xA00000000000000000 = .reservedA ∧ decode 0xB00000000000000000 = .reservedB
      ∧ decode 0xC00000000000000000 = .reservedC ∧ decode 0xD00000000000000000 = .reservedD
      ∧ decode 0xE00000000000000000 = .reservedE ∧ decode 0xFFFFFFFFFFFFFFFFFF = .reservedF := by decide
theorem test_encode_words :
    encode (.init 1) = 0x110000000000000000 ∧ encode (.absorb 3 0x636261) = 0x230000000000636261
      ∧ encode (.final 0) = 0x300000000000000000 := by decide
theorem test_assembler : absorbString [0x61, 0x62, 0x63] = .absorb 3 0x636261 := by decide

/-! ## The datapath -/

/-- V-SB-1, V-SB-8, V-SB-14, V-SB-20. -/
theorem test_sbox_entries :
    sbox .s1 0 = 0x02AAB17CF7E90C5E ∧ sbox .s2 97 = 0xED5371F6D690C12D ∧ sbox .s3 128 = 0x8476FC1D4F387B58
      ∧ sbox .s4 255 = 0xC3A0396F7363A51F := by decide +kernel

/-- V-RND-4: byte k of c' is k. -/
theorem test_round_byte_order :
    tigerRound 0 0 0x0706050403020100 0 7 = (0x23D821CB394A2BFF, 0x4D3E5DC056B7A085, 0x0706050403020100) := by
  decide +kernel

/-- V-KS-3. -/
theorem test_key_schedule :
    keySchedule ⟨0, 1, 2, 3, 4, 5, 6, 7⟩ =
      ⟨0xD1D1D1F3F40F0F24, 0xC77776B0AC934B3B, 0x9D2D2CEAF6C9115A, 0x25B5B5737F6EB6FC, 0x62D2D2D1ADDD08B8,
        0xEA5A5A592578AD13, 0x61D1D1F2BF2D61D4, 0x1684E304632E088B⟩ := by decide +kernel

/-- V-CMP-1: the chaining value after rounds r0 to r7. -/
theorem test_first_pass :
    passRounds 0 ⟨1, 0, 0, 0, 0, 0, 0, 0⟩ iv = ⟨0x6D48AD66587872C9, 0xA8AE6571AFB17F1B, 0x323A0AFA4FECCFF3⟩ := by
  decide +kernel

/-- V-CMP-2. -/
theorem test_compress_abc :
    compress iv (blockWords (pad [0x61, 0x62, 0x63])) =
      ⟨0xF258C1E88414AB2A, 0x527AB541FFC5B8BF, 0x935F7B951C132951⟩ := by decide +kernel

/-- V-PAD-2 and V-PAD-3, as words. -/
theorem test_pad_words :
    blockWords (pad [0x61, 0x62, 0x63]) = ⟨0x01636261, 0, 0, 0, 0, 0, 0, 0x18⟩
      ∧ (blockWords (pad (List.replicate 55 0x61))).x6 = 0x0161616161616161
      ∧ (blockWords (pad (List.replicate 55 0x61))).x7 = 0x1B8 := by decide +kernel

/-- V-PAD-5: 63 tail bytes take two frames. -/
theorem test_two_frames :
    tailFrames (List.replicate 63 0x61) 63 =
      [List.replicate 63 0x61 ++ [0x01], List.replicate 56 0 ++ [0xF8, 0x01, 0, 0, 0, 0, 0, 0]] := by decide +kernel

/-- V-PAD-8 and V-PAD-9: the length field modulo 2^64. -/
theorem test_length_field_wraps :
    lengthField 0x2000000000000001 = [0x08, 0, 0, 0, 0, 0, 0, 0]
      ∧ lengthField 0xFFFFFFFFFFFFFFFF = [0xF8, 0xFF, 0xFF, 0xFF, 0xFF, 0xFF, 0xFF, 0xFF] := by decide +kernel

/-- V-H-3 in the rendering of R166. -/
theorem test_hash_abc :
    hex (tigerHash [0x61, 0x62, 0x63] .w192) = "2aab1484e8c158f2bfb8c5ff41b57a525129131c957b5f93".toList := by decide +kernel

/-- V-TR-2. -/
theorem test_hash_abc_128 :
    hex (tigerHash [0x61, 0x62, 0x63] .w128) = "2aab1484e8c158f2bfb8c5ff41b57a52".toList := by decide +kernel

/-! ## The commands -/

/-- V-CMD-1. -/
theorem test_nop_from_reset : statusAfter 0x0FFFFFFFFFFFFFFFFF State.reset = some 0x00000000 := by decide +kernel

/-- V-CMD-2. -/
theorem test_nop_keeps_error : statusAfter 0x000000000000000000 errored = some 0x00000102 := by decide +kernel

/-- V-CMD-8 for STATUS and V-CMD-3 for cv_o: INIT clears an error and loads the initial value. -/
theorem test_init_from_error :
    statusAfter 0x100000000000000000 errored = some 0x00000004
      ∧ (nextOf (exec (.init 0) errored)).bind cvO = some 0xF096A5B4C3B2E187FEDCBA98765432100123456789ABCDEF := by
  decide +kernel

/-- V-CMD-7: a failed INIT keeps LEN and OUTW, and cv_o has no value. -/
theorem test_init_bad_width :
    statusAfter 0x1F0000000000000000 (openAt 1 0x61) = some 0x00010402
      ∧ (nextOf (exec (.init 15) (openAt 1 0x61))).bind cvO = none := by decide +kernel

/-- P3, ABSORB #8: the eighth byte completes the block (V-CMP-3, row 1). -/
theorem test_absorb_fills_block :
    statusAfter 0x286161616161616161 (openAt 56 0x61) = some 0x00000004
      ∧ (nextOf (exec (.absorb 8 0x6161616161616161) (openAt 56 0x61))).map (fun t => (t.cv, t.len, t.blkcnt)) =
        some (⟨0xD3B7D1760D8AC029, 0xA7EBD0DCB5F73ACF, 0xB056A75AFB121200⟩, 64, 1) := by decide +kernel

/-- P6, ABSORB 2: the compression runs between the two bytes. -/
theorem test_absorb_across_boundary :
    statusAfter 0x220000000000006262 (openAt 63 0x61) = some 0x00010004
      ∧ (nextOf (exec (.absorb 2 0x6262) (openAt 63 0x61))).map (fun t => (t.cv, t.len, readByte t.buf 0)) =
        some (⟨0x789F74C0C4811DC5, 0xE3324F87664693B4, 0x782B6D9F1AE17405⟩, 65, some 0x62) := by decide +kernel

/-- V-CMD-21: one frame; V-LB-a-55. -/
theorem test_final_one_frame :
    statusAfter 0x300000000000000000 (openAt 55 0x61) = some 0x00370008
      ∧ (nextOf (exec (.final 0) (openAt 55 0x61))).map (fun t => hex (digestBytes t)) =
        some "ec03564f7ff39bfba848b5ab3ecdf21a1ea371549a7a62e3".toList := by decide +kernel

/-- V-CMD-23: two frames; V-LB-a-63. -/
theorem test_final_two_frames :
    statusAfter 0x300000000000000000 (openAt 63 0x61) = some 0x003F0008
      ∧ (nextOf (exec (.final 0) (openAt 63 0x61))).map (fun t => (hex (digestBytes t), t.blkcnt)) =
        some ("9366604ea109e48ed763caabb2d5633b4946eb295ef5781a".toList, 2) := by decide +kernel

/-- V-CMD-29 for OP#4; R181, R186 for the other reserved opcodes in PHASE = IDLE. -/
theorem test_reserved_from_reset :
    ∀ op ∈ [0x4, 0x5, 0x6, 0x7, 0x8, 0x9, 0xA, 0xB, 0xC, 0xD, 0xE, 0xF],
      statusAfter (BitVec.ofNat 72 (op * 2 ^ 68)) State.reset = some 0x00000102 := by decide +kernel

/-- V-CMD-31 from the error state of V-CMD-15: the first error stays. -/
theorem test_reserved_keeps_first_error :
    statusAfter 0x500000000000000000 (raiseError .badSeq State.reset) = some 0x00000302 := by decide +kernel

/-- V-CMD-16, V-CMD-28: BAD_ARG wins over BAD_SEQ. -/
theorem test_bad_arg_before_bad_seq :
    statusAfter 0x200000000000000000 State.reset = some 0x00000202
      ∧ statusAfter 0x310000000000000000 State.reset = some 0x00000202 := by decide +kernel

/-- V-CMD-17, V-CMD-27: BAD_SEQ in PHASE = DONE. -/
theorem test_bad_seq_when_done :
    statusAfter 0x210000000000000061 (finished .w192) = some 0x0000030A
      ∧ statusAfter 0x300000000000000000 (finished .w192) = some 0x0000030A := by decide +kernel

/-- V-SER-1, and R187's zero bytes beyond DLEN. -/
theorem test_digest_port :
    digestO (finished .w192) = some 0xF373DE2D49584E7A16166E76B1BB925F24F0130C63AC9332
      ∧ digestO (finished .w160) = some 0x0000000049584E7A16166E76B1BB925F24F0130C63AC9332
      ∧ digestO (opened .w192) = none := by decide +kernel

/-- The first step after reset runs a presented INIT 160 (R183's example). -/
theorem test_step_runs_presented_word :
    (nextOf (step (State.reset.withFetchWord 72 0x110000000000000000))).bind statusO = some 0x00000014 := by decide +kernel

/-! ## Witnesses: for each statement with hypotheses, values that meet them together -/

/-- OpcodeMap, ReservedRaisesBadOp: the first and the last reserved opcode. -/
theorem witness_reserved : Instr.reserved4.isReserved = true ∧ Instr.reservedF.isReserved = true := by decide

/-- IgnoredBitsDoNotMatter: words that differ, in lane 1 of an ABSORB of one byte (V-CMD-11), in DATA of INIT and in ARG of NOP. -/
theorem witness_ignored_bits :
    SameUsedBits 0x21000000000000FF61 0x210000000000000061 ∧ SameUsedBits 0x100000000000000001 0x100000000000000000
      ∧ SameUsedBits 0x0F0000000000000000 0 := by
  unfold SameUsedBits
  decide +kernel

/-- NopChangesNothing: the largest word with OP = 0. -/
theorem witness_nop_word : (0x0FFFFFFFFFFFFFFFFF : Command).toNat < 2 ^ 68 := by decide

/-- InitEffect, StickyErrors, InitOpensEmptyMessage: the largest legal width and the smallest and largest illegal ones. -/
theorem witness_width_args :
    ((2 : BitVec 4), Width.w128) ∈ [((0 : BitVec 4), Width.w192), (1, .w160), (2, .w128)] ∧ (2 : BitVec 4).toNat ≤ 2
      ∧ 3 ≤ (3 : BitVec 4).toNat ∧ 3 ≤ (15 : BitVec 4).toNat := by decide

/-- AbsorbInsideBlock at its bounds: one byte at offset 0, and eight bytes that end at offset 62. -/
theorem witness_absorb_inside :
    ((openAt 0 0).err = false ∧ (openAt 0 0).phase = .absorb ∧ bufOffset (openAt 0 0) + (1 : BitVec 4).toNat < 64)
      ∧ (openAt 55 0).err = false ∧ (openAt 55 0).phase = .absorb ∧ bufOffset (openAt 55 0) + (8 : BitVec 4).toNat < 64 := by
  decide +kernel

/-- AbsorbInsideBlock's two clauses at offset 55: the first and last byte stored, and the byte after them. -/
theorem witness_absorb_inside_clauses :
    (nextOf (exec (.absorb 8 0x0807060504030201) (openAt 55 0x61))).map
        (fun t => (readByte t.buf 54, readByte t.buf 55, readByte t.buf 62, readByte t.buf 63)) =
      some (some 0x61, some 0x01, some 0x08, some 0) := by decide +kernel

/-- AbsorbAcrossBoundary at its bounds: the byte that just completes a block, and eight bytes of which seven open the next. -/
theorem witness_absorb_across :
    ((openAt 63 0x61).err = false ∧ (openAt 63 0x61).phase = .absorb ∧ 64 ≤ bufOffset (openAt 63 0x61) + (1 : BitVec 4).toNat
      ∧ 64 ≤ bufOffset (openAt 63 0x61) + (8 : BitVec 4).toNat
      ∧ memRead (openAt 63 0x61).buf 0 (bufOffset (openAt 63 0x61)) = some (List.replicate 63 0x61))
      ∧ 64 ≤ bufOffset (openAt 56 0x61) + (8 : BitVec 4).toNat := by decide +kernel

/-- AbsorbAcrossBoundary's three clauses at offset 63 with n = 8: offsets 0 and 6 stored, 7 kept, 63 stored. -/
theorem witness_absorb_across_clauses :
    (nextOf (exec (.absorb 8 0x0807060504030201) (openAt 63 0x61))).map
        (fun t => (readByte t.buf 0, readByte t.buf 6, readByte t.buf 7, readByte t.buf 63)) =
      some (some 0x02, some 0x08, some 0x61, some 0x01) := by decide +kernel

/-- FinalFramesTail, FinalLeavesBufUnspecified: tails of 0, 55, 56 and 63 bytes. -/
theorem witness_final_tails :
    ∀ k ∈ [0, 55, 56, 63], (openAt k 0x61).err = false ∧ (openAt k 0x61).phase = .absorb
      ∧ memRead (openAt k 0x61).buf 0 ((openAt k 0x61).len.toNat % 64) = some (List.replicate k 0x61) := by decide +kernel

/-- FinalLeavesBufUnspecified: FINAL answers a next state there. -/
theorem witness_final_next : ∃ t, exec (.final 0) (openAt 3 0x61) = .next t := ⟨_, rfl⟩

/-- UnspecifiedTailFaults: an open message of which BUF holds no byte, a state no run reaches. -/
theorem witness_unspecified_tail :
    memRead ({ openAt 1 0x61 with buf := [] } : State).buf 0 (bufOffset { openAt 1 0x61 with buf := [] }) = none := by decide +kernel

/-- InitEffect, StickyErrors, OnlyInitLeavesAnError: an error is recorded, and an INIT clears it. -/
theorem witness_sticky :
    errored.err = true ∧ (nextOf (exec (.init 0) errored)).map (fun t => t.err) = some false
      ∧ (nextOf (exec (.init 3) errored)).map (fun t => t.errcode) = some .badWidth := by decide +kernel

/-- ErrorsArePrecise, ErrorCodesAndCauses: each code is raised by some command. -/
theorem witness_errors_raised :
    (nextOf (exec .reserved4 State.reset)).map (fun t => (t.err, t.errcode)) = some (true, .badOp)
      ∧ (nextOf (exec (.absorb 9 0) (opened .w192))).map (fun t => (t.err, t.errcode)) = some (true, .badArg)
      ∧ (nextOf (exec (.final 1) (opened .w192))).map (fun t => (t.err, t.errcode)) = some (true, .badArg)
      ∧ (nextOf (exec (.absorb 8 0) State.reset)).map (fun t => (t.err, t.errcode)) = some (true, .badSeq)
      ∧ (nextOf (exec (.final 0) State.reset)).map (fun t => (t.err, t.errcode)) = some (true, .badSeq)
      ∧ (nextOf (exec (.init 3) State.reset)).map (fun t => (t.err, t.errcode)) = some (true, .badWidth) := by decide +kernel

/-- ChainWriters, HiddenRegisterWriters: INIT changes A, B, C; an ABSORB that completes a block changes them, AA, BB, CC and X;
and so does a FINAL. -/
theorem witness_writers :
    (nextOf (exec (.init 0) State.reset)).map (fun t => decide (t.cv ≠ State.reset.cv)) = some true
      ∧ (nextOf (exec (.absorb 1 0) (openAt 63 0))).map
          (fun t => (decide (t.cv ≠ iv), decide (t.saved ≠ (openAt 63 0).saved), decide (t.x ≠ (openAt 63 0).x))) =
        some (true, true, true)
      ∧ (nextOf (exec (.final 0) (openAt 63 0))).map (fun t => decide (t.cv ≠ iv)) = some true := by decide +kernel

/-- CompressionsPerCommand, LenCountsMessageBytes, PhaseWriters, OutwWriters, CommandsLeavePinsAlone: commands that go on. -/
theorem witness_commands_go_on :
    exec .nop State.reset = .next State.reset ∧ ∃ t, exec (.absorb 8 0) (opened .w192) = .next t := ⟨rfl, _, rfl⟩

/-- StatusLayout, ChainPort, DigestPort, CounterPortsAndReady, NothingPresentedNothingChanges: quiet pins, BUSY = 0, in each
phase. -/
theorem witness_ports :
    (pins State.reset).rst = false ∧ (pins State.reset).cmdValid = false ∧ State.reset.busy = false
      ∧ State.reset.phase = .idle ∧ (pins (opened .w160)).rst = false ∧ (opened .w160).phase = .absorb
      ∧ (pins (finished .w128)).rst = false ∧ (finished .w128).phase = .done ∧ (finished .w128).busy = false := by decide

/-- StatusLayout, BusyStateIsNotStepped, and the BUSY clauses of the ports. -/
theorem witness_busy : (acceptCommand State.reset).busy = true ∧ (pins (acceptCommand State.reset)).rst = false := by decide

/-- ResetFromAnyState: rst = 1 while BUSY = 1; and so the rst = 1 clauses of StatusLayout, ChainPort, DigestPort and
CounterPortsAndReady. -/
theorem witness_reset_pin :
    (pins { openAt 3 0x61 with busy := true, inputs := [⟨true, true, 0⟩] }).rst = true := by decide

/-- ChainPort and DigestPort where their clauses meet: PHASE = DONE and BUSY = 0, but rst = 1 (U7, log 8). -/
theorem witness_ports_in_reset :
    (pins { finished .w192 with inputs := [⟨true, false, 0⟩] }).rst = true
      ∧ cvO { finished .w192 with inputs := [⟨true, false, 0⟩] } = none
      ∧ digestO { finished .w192 with inputs := [⟨true, false, 0⟩] } = none := by decide +kernel

/-- StepRunsPresentedCommand, PresentedWordRunsNext. -/
theorem witness_presented :
    (State.reset.withFetchWord 72 0x100000000000000000).busy = false
      ∧ (State.reset.withFetchWord 72 0x100000000000000000).inputs = [⟨false, true, 0x100000000000000000⟩]
      ∧ (0xFFFFFFFFFFFFFFFFFF : Nat) < 2 ^ 72 := by decide

theorem opened_specified (w : Width) : BufSpecified (opened w) := fun p hp => by
  simp [opened, readByte_zeroBuf hp]

/-- CommandsAlwaysComplete, StepKeepsInv, StepsAlwaysComplete: an open message meets the invariant, and a step goes on. -/
theorem witness_inv : Inv (opened .w192) ∧ step (opened .w192) = .next (opened .w192) :=
  ⟨⟨⟨zeroBuf_wf, fun _ => opened_specified _, by decide⟩, rfl⟩, rfl⟩

/-- RoundRotation, SboxBytePositionsPermute, BlockWordsLittleEndian, WordByteConversions: the last index of each. -/
theorem witness_indices :
    (23 : Nat) < 24 ∧ (7 : Nat) < 8 ∧ (List.replicate 64 (0 : Byte)).length = 64 ∧ (bytesLE 0).length = 8 := by decide

/-- AbsorbExtendsMessage, FinalProducesHash: the empty message is open. -/
theorem witness_open_message :
    OpenMessage [] (opened .w192) ∧ (opened .w192).err = false ∧ (opened .w192).busy = false
      ∧ (pins (opened .w192)).rst = false :=
  ⟨⟨rfl, rfl, rfl, rfl, rfl, opened_specified _⟩, rfl, rfl, rfl⟩

/-- P2: HASH 192, "abc" as commands (R79). -/
theorem test_hash_commands :
    hashCommands .w192 [0x61, 0x62, 0x63] = [.init 0, .absorb 3 0x636261, .final 0] := by
  have h : absorbStrings [0x61, 0x62, 0x63] = [.absorb 3 0x636261] := by
    rw [← test_assembler]
    rfl
  rw [hashCommands, h]
  rfl

/-- CommandStreamComputesHash, HashPseudoCommand: the pins of P2, "abc". -/
theorem witness_command_stream :
    ∃ s : State, s.busy = false ∧ (∀ c ∈ [((3 : BitVec 4), (0x636261 : Word))], 1 ≤ c.1.toNat ∧ c.1.toNat ≤ 8)
      ∧ s.inputs = [present (.init (widthArg .w192))] ++ [((3 : BitVec 4), (0x636261 : Word))].map
          (fun c => present (.absorb c.1 c.2)) ++ [present (.final 0)] ++ []
      ∧ s.inputs = (hashCommands .w192 [0x61, 0x62, 0x63]).map present ++ [] :=
  ⟨{ State.reset with inputs := (hashCommands .w192 [0x61, 0x62, 0x63]).map present }, rfl, by simp,
    by rw [test_hash_commands]; rfl, (List.append_nil _).symm⟩

/-- HiddenValuesNeverReachPorts: two states that agree and differ in A, AA, X, RC and BUF. -/
theorem witness_agree :
    ∃ s t : State, Agree s t ∧ s.cv ≠ t.cv ∧ s.saved ≠ t.saved ∧ s.x ≠ t.x ∧ s.rc ≠ t.rc ∧ s.buf ≠ t.buf :=
  ⟨State.reset,
    { State.reset with cv := iv, saved := iv, x := ⟨1, 0, 0, 0, 0, 0, 0, 0⟩, rc := 23, buf := zeroBuf },
    ⟨rfl, rfl, rfl, rfl, rfl, rfl, rfl, rfl, fun h => absurd rfl h, fun h => nomatch h⟩, by decide⟩

end Sys2Proof.Tests
end

/-! PROOFS. Bytes and words (spec/00_scope.md R8), and the byte of BUF that holds no value (R9). -/

namespace Sys2Proof.Machine

/-! ## Packed bytes, as bits and as a number -/

theorem packBytes_cons (n : Nat) (b : Byte) (bs : List Byte) :
    packBytes n (b :: bs) = packBytes n bs <<< 8 ||| b.setWidth n := rfl

/-- Bit i of the packed number is bit i mod 8 of byte i / 8. -/
theorem packBytes_getLsbD (n : Nat) (bs : List Byte) (i : Nat) :
    (packBytes n bs).getLsbD i = (decide (i < n) && (bs.getD (i / 8) 0).getLsbD (i % 8)) := by
  induction bs generalizing i with
  | nil => simp [packBytes]
  | cons b bs ih =>
    rw [packBytes_cons, BitVec.getLsbD_or, BitVec.getLsbD_shiftLeft, BitVec.getLsbD_setWidth, ih]
    by_cases hi : i < 8
    · simp [hi, Nat.div_eq_of_lt hi, Nat.mod_eq_of_lt hi]
    · have hd : i / 8 = (i - 8) / 8 + 1 := by omega
      have hm : (i - 8) % 8 = i % 8 := by omega
      have hb : b.getLsbD i = false := BitVec.getLsbD_of_ge b i (by omega)
      have hn : i < n → i - 8 < n := by omega
      rw [hd, hm, hb, List.getD_cons_succ]
      by_cases h : i < n <;> simp [hi, h, hn]

/-- The packed number is the bytes' base-256 number, cut to n bits. -/
theorem packBytes_toNat (n : Nat) (bs : List Byte) :
    (packBytes n bs).toNat = Nat.ofDigits 256 (bs.map BitVec.toNat) % 2 ^ n := by
  induction bs with
  | nil => simp [packBytes]
  | cons b bs ih =>
    have disjoint : packBytes n bs <<< 8 &&& b.setWidth n = 0#n := by
      ext i hi
      by_cases h : i < 8
      · simp [h]
      · simp [BitVec.getLsbD_of_ge b i (by omega)]
    rw [packBytes_cons, ← BitVec.add_eq_or_of_and_eq_zero _ _ disjoint, BitVec.toNat_add, BitVec.toNat_shiftLeft,
      BitVec.toNat_setWidth, ih, Nat.shiftLeft_eq, Nat.mod_mul_mod, ← Nat.add_mod, List.map_cons, Nat.ofDigits_cons]
    congr 1
    omega

/-- A list of bytes as a base-256 number is the sum of b_j * 2^(8j). -/
theorem ofDigits_bytes_eq_sum (bs : List Byte) :
    Nat.ofDigits 256 (bs.map BitVec.toNat)
      = ((List.range bs.length).map fun j => (bs.getD j 0).toNat * 2 ^ (8 * j)).sum := by
  induction bs with
  | nil => rfl
  | cons b bs ih =>
    have shift : ∀ j, 2 ^ (8 * (j + 1)) = 256 * 2 ^ (8 * j) := fun j => by rw [Nat.mul_succ, Nat.pow_add, Nat.mul_comm]
    rw [List.map_cons, Nat.ofDigits_cons, ih, List.length_cons, List.range_succ_eq_map, List.map_cons, List.sum_cons,
      List.map_map, ← List.sum_map_mul_left]
    simp [Function.comp_def, shift, Nat.mul_left_comm]

theorem ofDigits_bytes_lt (bs : List Byte) : Nat.ofDigits 256 (bs.map BitVec.toNat) < 2 ^ (8 * bs.length) := by
  have digits : ∀ x ∈ bs.map BitVec.toNat, x < 256 := by
    intro x hx
    obtain ⟨b, -, rfl⟩ := List.mem_map.mp hx
    exact b.isLt
  have bound := Nat.ofDigits_lt_base_pow_length (by decide) digits
  rwa [List.length_map, show 256 = 2 ^ 8 from rfl, ← Nat.pow_mul] at bound

/-- R8: while the bytes fit in n bits, the packed number is the sum of b_j * 2^(8j). -/
theorem packBytes_toNat_eq_sum {n : Nat} {bs : List Byte} (h : 8 * bs.length ≤ n) :
    (packBytes n bs).toNat = ((List.range bs.length).map fun j => (bs.getD j 0).toNat * 2 ^ (8 * j)).sum := by
  have fits := Nat.lt_of_lt_of_le (ofDigits_bytes_lt bs) (Nat.pow_le_pow_right (by decide) h)
  rw [packBytes_toNat, Nat.mod_eq_of_lt fits, ofDigits_bytes_eq_sum]

/-! ## The bytes of a word -/

/-- R8: le64 of eight bytes is the sum of b_j * 2^(8j), which 64 bits hold. -/
theorem le64_toNat {bs : List Byte} (h : bs.length = 8) :
    (le64 bs).toNat = ((List.range 8).map fun j => (bs.getD j 0).toNat * 2 ^ (8 * j)).sum := by
  have sum := packBytes_toNat_eq_sum (n := 64) (bs := bs) (by omega)
  rwa [h] at sum

theorem bytek_getLsbD (w : Word) (k i : Nat) : (bytek w k).getLsbD i = (decide (i < 8) && w.getLsbD (8 * k + i)) := by
  simp [bytek]

theorem bytesLE_getElem? {w : Word} {j : Nat} (h : j < 8) : (bytesLE w)[j]? = some (bytek w j) := by
  have range_form : bytesLE w = (List.range 8).map (bytek w) := rfl
  simp [range_form, h]

/-- R8: byte j of le64 is b_j, and 0 past the end of the list. -/
theorem bytek_le64 (bs : List Byte) {j : Nat} (h : j < 8) : bytek (le64 bs) j = bs.getD j 0 := by
  apply BitVec.eq_of_getLsbD_eq
  intro i hi
  have hd : (8 * j + i) / 8 = j := by omega
  have hm : (8 * j + i) % 8 = i := by omega
  rw [bytek_getLsbD, le64, packBytes_getLsbD, hd, hm]
  simp [hi, show 8 * j + i < 64 by omega]

theorem some_bytek_le64 {bs : List Byte} {j : Nat} (h : j < 8) (hj : j < bs.length) :
    some (bytek (le64 bs) j) = bs[j]? := by
  rw [bytek_le64 bs h, List.getD_eq_getElem _ _ hj, List.getElem?_eq_getElem hj]

theorem bytesLE_le64 {bs : List Byte} (h : bs.length = 8) : bytesLE (le64 bs) = bs := by
  apply List.ext_getElem?
  intro j
  by_cases hj : j < 8
  · rw [bytesLE_getElem? hj, some_bytek_le64 hj (h ▸ hj)]
  · rw [List.getElem?_eq_none (by simpa using hj), List.getElem?_eq_none (by omega)]

theorem le64_bytesLE (w : Word) : le64 (bytesLE w) = w := by
  apply BitVec.eq_of_getLsbD_eq
  intro i hi
  have byte : (bytesLE w).getD (i / 8) 0 = bytek w (i / 8) := by
    rw [List.getD_eq_getElem?_getD, bytesLE_getElem? (by omega), Option.getD_some]
  rw [le64, packBytes_getLsbD, byte, bytek_getLsbD, Nat.div_add_mod]
  simp [hi, Nat.mod_lt]

/-! ## The tail without a value -/

theorem exec_final (arg : BitVec 4) (s : State) : exec (.final arg) s = execFinal arg s := rfl

theorem orFault_eq_fault {o : Option State} {r : Fault} : orFault o = .fault r ↔ o = none := by
  cases o <;> cases r <;> simp [orFault]

end Sys2Proof.Machine

namespace Sys2Proof.Proofs

open Machine

/-- Settles O47: the bytes' base-256 number, which fits in 64 bits, gives the sum; the bits of the packed number give the rest. -/
theorem wordByteConversions : Obligations.WordByteConversions := by
  intro bs h
  exact ⟨le64_toNat h, fun j hj => some_bytek_le64 hj (h ▸ hj), bytesLE_le64 h, le64_bytesLE⟩

/-- Settles O14: in an open message FINAL answers what the read of its tail answers. -/
theorem unspecifiedTailFaults : Obligations.UnspecifiedTailFaults := by
  intro s he hp hread
  rw [exec_final, execFinal_open he hp, orFault_eq_fault, hread, Option.map_none]

end Sys2Proof.Proofs

/-! PROOFS. The control state (spec/10_state.md): who writes what, the invariant, the STATUS word, and what the ports cannot tell. -/

namespace Sys2Proof.Machine

/-! ## What a command can do -/

/-- A command that goes no further than the checks of R181 or has no effect: it changes nothing, or it records the first error. -/
def TurnedAway (s t : State) : Prop :=
  t = s ∨ (s.err = false ∧ ∃ code, code ≠ .noError ∧ t = raiseError code s)

/-- R222: recording an error writes ERR and ERRCODE and nothing else. -/
theorem TurnedAway.frame {s t : State} (h : TurnedAway s t) : t = { s with err := t.err, errcode := t.errcode } := by
  rcases h with rfl | ⟨-, code, -, rfl⟩ <;> rfl

/-- R223: under a sticky error nothing is recorded. -/
theorem TurnedAway.eq_of_err {s t : State} (h : TurnedAway s t) (he : s.err = true) : t = s := by
  rcases h with rfl | ⟨hf, -⟩
  · rfl
  · simp [he] at hf

theorem TurnedAway.len {s t : State} (h : TurnedAway s t) : t.len = s.len := by rw [h.frame]

theorem TurnedAway.blkcnt {s t : State} (h : TurnedAway s t) : t.blkcnt = s.blkcnt := by rw [h.frame]

theorem TurnedAway.phase {s t : State} (h : TurnedAway s t) : t.phase = s.phase := by rw [h.frame]

theorem TurnedAway.outw {s t : State} (h : TurnedAway s t) : t.outw = s.outw := by rw [h.frame]

theorem TurnedAway.of_raise {s : State} {code : ErrCode} (he : s.err = false) (hc : code ≠ .noError) :
    TurnedAway s (raiseError code s) := .inr ⟨he, code, hc, rfl⟩

theorem exec_nop_next {s t : State} (h : exec .nop s = .next t) : t = s := (Host.Outcome.next.inj h).symm

theorem exec_reserved_turnedAway {i : Instr} {s t : State} (hi : i.isReserved = true) (h : exec i s = .next t) :
    TurnedAway s t := by
  rcases exec_reserved_next hi h with ⟨-, rfl⟩ | ⟨he, rfl⟩
  · exact .inl rfl
  · exact .of_raise he (by decide)

/-- When an ABSORB takes its bytes in: the checks of R181, passed. -/
abbrev AbsorbAccepted (n : BitVec 4) (s : State) : Prop :=
  s.err = false ∧ 1 ≤ n.toNat ∧ n.toNat ≤ 8 ∧ s.phase = .absorb

/-- When a FINAL ends the message: the checks of R181, passed. -/
abbrev FinalAccepted (arg : BitVec 4) (s : State) : Prop := s.err = false ∧ arg = 0 ∧ s.phase = .absorb

theorem exec_init_effect {arg : BitVec 4} {s t : State} (h : exec (.init arg) s = .next t) :
    (arg.toNat ≤ 2 ∧ ∃ w, widthOf arg = some w ∧ t = startMessage w s) ∨ (¬arg.toNat ≤ 2 ∧ t = rejectWidth s) :=
  (exec_init_next h).imp_right fun ⟨ha, ht⟩ => ⟨by omega, ht⟩

theorem exec_absorb_effect {n : BitVec 4} {data : Word} {s t : State} (h : exec (.absorb n data) s = .next t) :
    (¬AbsorbAccepted n s ∧ TurnedAway s t) ∨ (AbsorbAccepted n s ∧ absorbBytes (lanes n data) s = some t) := by
  rcases exec_absorb_next h with ⟨he, rfl⟩ | ⟨he, hn, rfl⟩ | ⟨he, -, hp, rfl⟩ | ⟨he, ⟨h1, h8⟩, hp, ht⟩
  · exact .inl ⟨fun ⟨hf, _⟩ => by simp [he] at hf, .inl rfl⟩
  · exact .inl ⟨fun ⟨_, h1, h8, _⟩ => hn ⟨h1, h8⟩, .of_raise he (by decide)⟩
  · exact .inl ⟨fun ⟨_, _, _, ha⟩ => hp ha, .of_raise he (by decide)⟩
  · exact .inr ⟨⟨he, h1, h8, hp⟩, ht⟩

theorem exec_final_effect {arg : BitVec 4} {s t : State} (h : exec (.final arg) s = .next t) :
    (¬FinalAccepted arg s ∧ TurnedAway s t)
    ∨ (FinalAccepted arg s ∧ ∃ tail, memRead s.buf 0 (bufOffset s) = some tail ∧ t = finishMessage tail s) := by
  rcases exec_final_next h with ⟨he, rfl⟩ | ⟨he, ha, rfl⟩ | ⟨he, -, hp, rfl⟩ | ⟨he, ha, hp, ht⟩
  · exact .inl ⟨fun ⟨hf, _⟩ => by simp [he] at hf, .inl rfl⟩
  · exact .inl ⟨fun ⟨_, h0, _⟩ => ha h0, .of_raise he (by decide)⟩
  · exact .inl ⟨fun ⟨_, _, hq⟩ => hp hq, .of_raise he (by decide)⟩
  · exact .inr ⟨⟨he, ha, hp⟩, ht⟩

/-- Every way a command can go on (R181): turned away, the two ends of INIT, ABSORB and FINAL in an open message. -/
theorem exec_next_cases {i : Instr} {s t : State} (h : exec i s = .next t) :
    TurnedAway s t
    ∨ (∃ arg w, i = .init arg ∧ arg.toNat ≤ 2 ∧ widthOf arg = some w ∧ t = startMessage w s)
    ∨ (∃ arg, i = .init arg ∧ 3 ≤ arg.toNat ∧ t = rejectWidth s)
    ∨ (∃ n data, i = .absorb n data ∧ AbsorbAccepted n s ∧ absorbBytes (lanes n data) s = some t)
    ∨ (i = .final 0 ∧ FinalAccepted 0 s ∧ ∃ tail, memRead s.buf 0 (bufOffset s) = some tail ∧ t = finishMessage tail s) := by
  rcases instr_cases i with rfl | ⟨arg, rfl⟩ | ⟨n, data, rfl⟩ | ⟨arg, rfl⟩ | hi
  · exact .inl (.inl (exec_nop_next h))
  · rcases exec_init_next h with ⟨ha, w, hw, ht⟩ | ⟨ha, ht⟩
    · exact .inr (.inl ⟨arg, w, rfl, ha, hw, ht⟩)
    · exact .inr (.inr (.inl ⟨arg, rfl, ha, ht⟩))
  · rcases exec_absorb_effect h with ⟨-, ht⟩ | ⟨ha, ht⟩
    · exact .inl ht
    · exact .inr (.inr (.inr (.inl ⟨n, data, rfl, ha, ht⟩)))
  · rcases exec_final_effect h with ⟨-, ht⟩ | ⟨ha, ht⟩
    · exact .inl ht
    · obtain ⟨he, rfl, hp⟩ := ha
      exact .inr (.inr (.inr (.inr ⟨rfl, ⟨he, rfl, hp⟩, ht⟩)))
  · exact .inl (exec_reserved_turnedAway hi h)

theorem widthOf_eq_some {arg : BitVec 4} {w : Width} (h : widthOf arg = some w) :
    (arg = 0 ∧ w = .w192) ∨ (arg = 1 ∧ w = .w160) ∨ (arg = 2 ∧ w = .w128) := by
  revert h
  revert arg
  cases w <;> decide

/-! ## The compressions of an ABSORB -/

/-- R50: the offset goes up by 1 with each byte stored, modulo 64. -/
theorem bufOffset_storeByte (b : Byte) (s : State) : bufOffset (storeByte b s) = (bufOffset s + 1) % 64 := by
  have step : (s.len + 1).toNat = (s.len.toNat + 1) % 2 ^ 64 := BitVec.toNat_add _ _
  simp only [bufOffset, storeByte_len, step]
  omega

theorem bufOffset_compressBlock (block : List Byte) (s : State) : bufOffset (compressBlock block s) = bufOffset s := rfl

/-- R184: one byte compresses exactly when it ends the block. -/
theorem absorbByte_counts {b : Byte} {s t : State} (h : absorbByte b s = some t) :
    bufOffset t = (bufOffset s + 1) % 64 ∧ t.blkcnt = s.blkcnt + BitVec.ofNat 64 ((bufOffset s + 1) / 64) := by
  have hlt := bufOffset_lt s
  rcases absorbByte_cases h with ⟨hb, rfl⟩ | ⟨hb, block, -, rfl⟩ <;> rw [bufOffset_storeByte] at hb
  · refine ⟨bufOffset_storeByte b s, ?_⟩
    rw [show (bufOffset s + 1) / 64 = 0 by omega]
    simp
  · refine ⟨(bufOffset_compressBlock block _).trans (bufOffset_storeByte b s), ?_⟩
    rw [show (bufOffset s + 1) / 64 = 1 by omega]
    rfl

/-- R27, R184: absorbing compresses once for each block end the bytes reach. -/
theorem absorbBytes_blkcnt {bs : List Byte} {s t : State} (h : absorbBytes bs s = some t) :
    t.blkcnt = s.blkcnt + BitVec.ofNat 64 ((bufOffset s + bs.length) / 64) := by
  induction bs generalizing s with
  | nil =>
    obtain rfl := Option.some.inj h
    simp [Nat.div_eq_of_lt (bufOffset_lt s)]
  | cons b bs ih =>
    obtain ⟨u, hu, ht⟩ := Option.bind_eq_some_iff.mp h
    obtain ⟨ho, hk⟩ := absorbByte_counts hu
    have blocks : (bufOffset s + 1) / 64 + ((bufOffset s + 1) % 64 + bs.length) / 64
        = (bufOffset s + (b :: bs).length) / 64 := by
      rw [List.length_cons]
      omega
    rw [ih ht, hk, ho, BitVec.add_assoc, ← BitVec.ofNat_add, blocks]

/-- R184: bytes that do not reach the end of the block write BUF and LEN only. -/
theorem absorbBytes_inside_block {bs : List Byte} {s t : State} (h : absorbBytes bs s = some t)
    (hin : bufOffset s + bs.length < 64) : t = { s with len := t.len, buf := t.buf } := by
  induction bs generalizing s with
  | nil => exact Option.some.inj h ▸ rfl
  | cons b bs ih =>
    obtain ⟨u, hu, ht⟩ := Option.bind_eq_some_iff.mp h
    rw [List.length_cons] at hin
    have ho := bufOffset_storeByte b s
    rcases absorbByte_cases hu with ⟨-, rfl⟩ | ⟨hb, -⟩
    · exact (ih ht (by omega) :)
    · omega

/-- An accepted ABSORB compresses once if its bytes reach the end of the block, else not (R184). -/
theorem absorb_accepted_blkcnt {n : BitVec 4} {data : Word} {s t : State} (ha : AbsorbAccepted n s)
    (h : absorbBytes (lanes n data) s = some t) :
    t.blkcnt = if 64 ≤ bufOffset s + n.toNat then s.blkcnt + 1 else s.blkcnt := by
  obtain ⟨-, -, h8, -⟩ := ha
  have hlt := bufOffset_lt s
  rw [absorbBytes_blkcnt h, lanes_length]
  split
  · rw [show (bufOffset s + n.toNat) / 64 = 1 by omega]
    rfl
  · rw [show (bufOffset s + n.toNat) / 64 = 0 by omega]
    simp

/-- FINAL compresses once or twice, by the length of the tail (R103). -/
theorem finishMessage_blkcnt {tail : List Byte} {s : State} (h : memRead s.buf 0 (bufOffset s) = some tail) :
    (finishMessage tail s).blkcnt = s.blkcnt + (if s.len.toNat % 64 ≤ 55 then 1 else 2) := by
  obtain ⟨-, hk, -⟩ := finishMessage_spec tail s
  rw [hk, memRead_length h, bufOffset]
  split <;> rfl

/-- R131: a command that does not compress leaves the hidden registers alone, and A, B, C too unless it is a legal INIT. -/
theorem exec_compresses_or_keeps {i : Instr} {s t : State} (h : exec i s = .next t) :
    ((t.saved = s.saved ∧ t.x = s.x ∧ t.rc = s.rc) ∧ (t.cv = s.cv ∨ ∃ arg, i = .init arg ∧ arg.toNat ≤ 2))
    ∨ (∃ n data, i = .absorb n data ∧ t.blkcnt = s.blkcnt + 1)
    ∨ (i = .final 0 ∧ (t.blkcnt = s.blkcnt + 1 ∨ t.blkcnt = s.blkcnt + 2)) := by
  rcases exec_next_cases h with ht | ⟨arg, w, rfl, ha, -, rfl⟩ | ⟨arg, rfl, -, rfl⟩ | ⟨n, data, rfl, ha, ht⟩ |
    ⟨rfl, -, tail, hread, rfl⟩
  · rw [ht.frame]
    exact .inl ⟨⟨rfl, rfl, rfl⟩, .inl rfl⟩
  · exact .inl ⟨⟨rfl, rfl, rfl⟩, .inr ⟨arg, rfl, ha⟩⟩
  · exact .inl ⟨⟨rfl, rfl, rfl⟩, .inl rfl⟩
  · by_cases hin : 64 ≤ bufOffset s + n.toNat
    · exact .inr (.inl ⟨n, data, rfl, by rw [absorb_accepted_blkcnt ha ht, if_pos hin]⟩)
    · rw [absorbBytes_inside_block ht (by simpa using hin)]
      exact .inl ⟨⟨rfl, rfl, rfl⟩, .inl rfl⟩
  · refine .inr (.inr ⟨rfl, ?_⟩)
    rw [finishMessage_blkcnt hread]
    split
    · exact .inl rfl
    · exact .inr rfl

/-! ## The invariant -/

theorem reset_regInv : RegInv State.reset := ⟨empty_wf, nofun, by decide⟩

theorem TurnedAway.regInv {s t : State} (h : TurnedAway s t) (hi : RegInv s) : RegInv t := by
  rcases h with rfl | ⟨-, code, hc, rfl⟩
  · exact hi
  · exact ⟨hi.bufWf, hi.bufSpecified, by simp [hc]⟩

theorem startMessage_regInv (w : Width) (s : State) : RegInv (startMessage w s) :=
  ⟨zeroBuf_wf, fun _ p hp => by simp [readByte_zeroBuf hp], by simp⟩

theorem rejectWidth_regInv {s : State} (h : RegInv s) : RegInv (rejectWidth s) := ⟨h.bufWf, nofun, by simp⟩

theorem AbsorbKeeps.regInv {s t : State} (k : AbsorbKeeps s t) (h : RegInv s) : RegInv t :=
  ⟨k.wf h.bufWf, fun hp => k.specified (h.bufSpecified (k.phase ▸ hp)), by rw [k.err, k.errcode]; exact h.errAgrees⟩

theorem finishMessage_regInv {tail : List Byte} {s : State} (h : RegInv s) : RegInv (finishMessage tail s) :=
  have k := (compressFrames_keeps (tailFrames tail s.len) s).regInv h
  ⟨empty_wf, nofun, k.errAgrees⟩

/-- Every command keeps the invariant of the registers (R33, R50). -/
theorem exec_keeps_regInv {i : Instr} {s t : State} (hs : RegInv s) (h : exec i s = .next t) : RegInv t := by
  rcases exec_next_cases h with ht | ⟨arg, w, -, -, -, rfl⟩ | ⟨arg, -, -, rfl⟩ | ⟨n, data, -, -, ht⟩ |
    ⟨-, -, tail, -, rfl⟩
  · exact ht.regInv hs
  · exact startMessage_regInv w s
  · exact rejectWidth_regInv hs
  · exact (absorbBytes_keeps ht).regInv hs
  · exact finishMessage_regInv hs

/-- RegInv reads BUF, PHASE, ERR and ERRCODE only: the pins and BUSY may differ. -/
theorem regInv_with_pins_busy {s : State} (inputs : List PortIn) (busy : Bool) (h : RegInv s) :
    RegInv { s with inputs := inputs, busy := busy } := ⟨h.bufWf, h.bufSpecified, h.errAgrees⟩

theorem inv_reset : Inv State.reset := ⟨reset_regInv, rfl⟩

theorem resetCore_inv (s : State) : Inv (resetCore s) :=
  ⟨⟨reset_regInv.bufWf, reset_regInv.bufSpecified, reset_regInv.errAgrees⟩, rfl⟩

theorem step_keeps_inv {s t : State} (hs : Inv s) (h : step s = .next t) : Inv t := by
  rcases step_cases s with ⟨-, e⟩ | ⟨-, -, e⟩ | ⟨-, hb, -, e⟩ | ⟨-, -, -, e⟩ <;> rw [e] at h
  · obtain rfl := Host.Outcome.next.inj h
    exact resetCore_inv _
  · nomatch h
  · obtain rfl := Host.Outcome.next.inj h
    exact ⟨regInv_with_pins_busy _ _ hs.regs, hb⟩
  · obtain ⟨u, hu, rfl⟩ := completeCommand_eq_next.mp h
    have accepted : RegInv (acceptCommand (passEdge s)) := regInv_with_pins_busy (s := s) _ _ hs.regs
    exact ⟨regInv_with_pins_busy _ _ (exec_keeps_regInv accepted hu), rfl⟩

/-! ## The STATUS word -/

section StatusWord

variable (s : State)

theorem statusWord_busy : (statusWord s).getLsbD 0 = s.busy := by
  simp only [statusWord, BitVec.getLsbD_append]
  simp

theorem statusWord_err : (statusWord s).getLsbD 1 = s.err := by
  simp only [statusWord, BitVec.getLsbD_append]
  simp

/-- R32: each field of more than one bit is the slice of the appended word at its place: what stands below it is skipped, what
stands above it is cut off. -/
theorem statusWord_slices :
    (statusWord s).extractLsb' 2 2 = phaseCode s.phase ∧ (statusWord s).extractLsb' 4 2 = widthCode s.outw
    ∧ (statusWord s).extractLsb' 6 2 = 0 ∧ (statusWord s).extractLsb' 8 4 = errCodeCode s.errcode
    ∧ (statusWord s).extractLsb' 12 4 = 0 ∧ (statusWord s).extractLsb' 16 6 = bufLen s
    ∧ (statusWord s).extractLsb' 22 10 = 0 := by
  refine ⟨?_, ?_, ?_, ?_, ?_, ?_, ?_⟩ <;>
  · simp (disch := decide) only [statusWord, BitVec.extractLsb'_append_eq_of_le, BitVec.extractLsb'_append_eq_of_add_le]
    exact BitVec.extractLsb'_eq_self

/-- R32: BUFLEN is the number of tail bytes. -/
theorem bufLen_toNat : (bufLen s).toNat = s.len.toNat % 64 := by
  simp [bufLen, BitVec.extractLsb'_toNat]

end StatusWord

theorem cmdReady_eq_true {s : State} (hb : s.busy = false) (hr : (pins s).rst = false) : cmdReady s = true := by
  simp [cmdReady, hb, hr]

theorem cmdReady_eq_false {s : State} (h : s.busy = true ∨ (pins s).rst = true) : cmdReady s = false := by
  rcases h with h | h <;> simp [cmdReady, h]

theorem statusO_ready {s : State} (h : cmdReady s = true) : statusO s = some (statusWord s) := if_pos h

theorem statusO_not_ready {s : State} (h : cmdReady s = false) : statusO s = none := by simp [statusO, h]

theorem statusBusyO_eq {s : State} (hr : (pins s).rst = false) : statusBusyO s = some s.busy := by simp [statusBusyO, hr]

theorem statusBusyO_in_reset {s : State} (hr : (pins s).rst = true) : statusBusyO s = none := if_pos hr

end Sys2Proof.Machine

namespace Sys2Proof

open Machine

/-! ## What the ports can tell apart -/

section Agree

variable {s t : State}

theorem Agree.pins_eq (h : Agree s t) : pins s = pins t := by rw [pins, pins, h.inputs]

theorem Agree.cmdReady_eq (h : Agree s t) : cmdReady s = cmdReady t := by rw [cmdReady, cmdReady, h.busy, h.pins_eq]

theorem Agree.statusWord_eq (h : Agree s t) : statusWord s = statusWord t := by
  simp only [statusWord, bufLen, h.len, h.errcode, h.outw, h.phase, h.err, h.busy]

theorem Agree.cvO_eq (h : Agree s t) : cvO s = cvO t := by
  unfold cvO
  rw [← h.cmdReady_eq, ← h.phase]
  by_cases hp : s.phase = .idle
  · simp [hp]
  · rw [h.cv hp]

theorem Agree.digestO_eq (h : Agree s t) : digestO s = digestO t := by
  unfold digestO
  rw [← h.cmdReady_eq, ← h.phase]
  by_cases hp : s.phase = .done
  · rw [digestBytes, digestBytes, h.cv (by simp [hp]), h.outw]
  · simp [hp]

theorem Agree.samePorts (h : Agree s t) : SamePorts s t := by
  refine ⟨h.cmdReady_eq, ?_, ?_, ?_, ?_, h.cvO_eq, h.digestO_eq⟩
  · rw [statusBusyO, statusBusyO, h.pins_eq, h.busy]
  · rw [statusO, statusO, h.cmdReady_eq, h.statusWord_eq]
  · rw [lenO, lenO, h.cmdReady_eq, h.len]
  · rw [blkcntO, blkcntO, h.cmdReady_eq, h.blkcnt]

/-! Each update of the state keeps the agreement. -/

theorem raiseError_agree (code : ErrCode) (h : Agree s t) : Agree (raiseError code s) (raiseError code t) :=
  { h with err := rfl, errcode := rfl }

theorem startMessage_agree (w : Width) (h : Agree s t) : Agree (startMessage w s) (startMessage w t) :=
  ⟨rfl, rfl, rfl, rfl, rfl, rfl, h.busy, h.inputs, fun _ => rfl, fun _ => rfl⟩

theorem rejectWidth_agree (h : Agree s t) : Agree (rejectWidth s) (rejectWidth t) :=
  { h with phase := rfl, err := rfl, errcode := rfl, cv := fun hp => absurd rfl hp, buf := nofun }

theorem resetCore_agree (h : Agree s t) : Agree (resetCore s) (resetCore t) :=
  ⟨rfl, rfl, rfl, rfl, rfl, rfl, rfl, h.inputs, fun _ => rfl, fun _ => rfl⟩

theorem passEdge_agree (h : Agree s t) : Agree (passEdge s) (passEdge t) :=
  { h with inputs := congrArg List.tail h.inputs }

theorem agree_with_busy (busy : Bool) (h : Agree s t) : Agree { s with busy := busy } { t with busy := busy } :=
  { h with busy := rfl }

/-- Agreement in an open message, in which BUF and A, B, C agree too. -/
structure OpenAgree (s t : State) : Prop extends Agree s t where
  isOpen : s.phase = .absorb

theorem OpenAgree.cv_eq (h : OpenAgree s t) : s.cv = t.cv := h.cv (by simp [h.isOpen])

theorem OpenAgree.buf_eq (h : OpenAgree s t) : s.buf = t.buf := h.buf h.isOpen

theorem Agree.bufOffset_eq (h : Agree s t) : bufOffset s = bufOffset t := by rw [bufOffset, bufOffset, h.len]

theorem storeByte_agree (b : Byte) (h : OpenAgree s t) : OpenAgree (storeByte b s) (storeByte b t) :=
  { h with
    len := by simp [h.len]
    buf := fun _ => by simp [h.buf_eq, h.toAgree.bufOffset_eq] }

theorem compressBlock_agree (block : List Byte) (h : OpenAgree s t) :
    OpenAgree (compressBlock block s) (compressBlock block t) :=
  { h with
    blkcnt := by simp [h.blkcnt]
    cv := fun _ => by simp [h.cv_eq] }

theorem absorbByte_agree (b : Byte) (h : OpenAgree s t) :
    Option.Rel OpenAgree (absorbByte b s) (absorbByte b t) := by
  have hs := storeByte_agree b h
  simp only [absorbByte]
  rw [hs.toAgree.bufOffset_eq, hs.buf_eq]
  split
  · cases memRead (storeByte b t).buf 0 64 with
    | none => exact .none
    | some block => exact .some (compressBlock_agree block hs)
  · exact .some hs

theorem optionRel_bind {α β : Type} {r : α → β → Prop} {o : Option α} {p : Option β} {f : α → Option α} {g : β → Option β}
    (h : Option.Rel r o p) (hfg : ∀ a b, r a b → Option.Rel r (f a) (g b)) : Option.Rel r (o.bind f) (p.bind g) := by
  rcases h with hab | _
  · exact hfg _ _ hab
  · exact .none

theorem absorbBytes_agree (bs : List Byte) (h : OpenAgree s t) :
    Option.Rel OpenAgree (absorbBytes bs s) (absorbBytes bs t) := by
  induction bs generalizing s t with
  | nil => exact .some h
  | cons b bs ih => exact optionRel_bind (absorbByte_agree b h) fun _ _ => ih

theorem compressFrames_agree (frames : List (List Byte)) (h : OpenAgree s t) :
    OpenAgree (compressFrames frames s) (compressFrames frames t) := by
  induction frames generalizing s t with
  | nil => exact h
  | cons frame frames ih => exact ih (compressBlock_agree frame h)

theorem finishMessage_agree (tail : List Byte) (h : OpenAgree s t) :
    Agree (finishMessage tail s) (finishMessage tail t) := by
  have hf := compressFrames_agree (tailFrames tail s.len) h
  unfold finishMessage
  rw [← h.len]
  exact { hf with phase := rfl, cv := fun _ => hf.cv_eq, buf := fun _ => rfl }

/-! Each command and each step keeps it. -/

theorem orFault_agree {o p : Option State} (h : Option.Rel OpenAgree o p) : AgreeResult (orFault o) (orFault p) := by
  rcases h with hab | _
  · exact hab.toAgree
  · rfl

theorem inOpenMessage_agree (argLegal : Bool) {q r : Result} (h : Agree s t) (act : OpenAgree s t → AgreeResult q r) :
    AgreeResult (inOpenMessage argLegal s q) (inOpenMessage argLegal t r) := by
  unfold inOpenMessage
  rw [← h.err, ← h.phase]
  split
  · exact h
  · split
    · exact raiseError_agree _ h
    · split
      · exact raiseError_agree _ h
      · exact act ⟨h, not_not.mp ‹_›⟩

theorem execFinal_agree (arg : BitVec 4) (h : Agree s t) : AgreeResult (execFinal arg s) (execFinal arg t) :=
  inOpenMessage_agree _ h fun ho => by
    rw [← ho.buf_eq, ← h.bufOffset_eq]
    cases memRead s.buf 0 (bufOffset s) with
    | none => rfl
    | some tail => exact finishMessage_agree tail ho

theorem execInit_agree (arg : BitVec 4) (h : Agree s t) : AgreeResult (execInit arg s) (execInit arg t) := by
  unfold execInit
  cases widthOf arg with
  | none => exact rejectWidth_agree h
  | some w => exact startMessage_agree w h

theorem reservedOpcode_agree (h : Agree s t) : AgreeResult (reservedOpcode s) (reservedOpcode t) := by
  unfold reservedOpcode
  rw [← h.err]
  split
  · exact h
  · exact raiseError_agree _ h

theorem exec_agree (i : Instr) (h : Agree s t) : AgreeResult (exec i s) (exec i t) := by
  rcases instr_cases i with rfl | ⟨arg, rfl⟩ | ⟨n, data, rfl⟩ | ⟨arg, rfl⟩ | hi
  · exact h
  · exact execInit_agree arg h
  · exact inOpenMessage_agree _ h fun ho => orFault_agree (absorbBytes_agree _ ho)
  · exact execFinal_agree arg h
  · rw [exec_reserved hi, exec_reserved hi]
    exact reservedOpcode_agree h

end Agree

/-- Results agree in one of three ways. -/
theorem agreeResult_cases {q r : Result} (h : AgreeResult q r) :
    (∃ s t, q = .next s ∧ r = .next t ∧ Agree s t) ∨ (∃ f, q = .fault f ∧ r = .fault f)
    ∨ (∃ f, q = .refused f ∧ r = .refused f) :=
  match q, r, h with
  | .next s, .next t, h => .inl ⟨s, t, rfl, rfl, h⟩
  | .fault f, .fault _, rfl => .inr (.inl ⟨f, rfl, rfl⟩)
  | .refused f, .refused _, rfl => .inr (.inr ⟨f, rfl, rfl⟩)

theorem completeCommand_agree {q r : Result} (h : AgreeResult q r) :
    AgreeResult (completeCommand q) (completeCommand r) := by
  rcases agreeResult_cases h with ⟨s, t, rfl, rfl, hst⟩ | ⟨f, rfl, rfl⟩ | ⟨f, rfl, rfl⟩
  · exact agree_with_busy false hst
  · rfl
  · rfl

theorem step_agree {s t : State} (h : Agree s t) : AgreeResult (step s) (step t) := by
  unfold step
  rw [← h.pins_eq, ← h.busy]
  split
  · exact resetCore_agree (passEdge_agree h)
  · split
    · rfl
    · split
      · exact completeCommand_agree (exec_agree _ (agree_with_busy true (passEdge_agree h)))
      · exact passEdge_agree h

theorem run_of_fault {k : Nat} {s : State} {f : Fault} (h : step s = .fault f) : run (k + 1) s = .fault f := by
  have h' : core.step s = .fault f := h
  simp only [run, Host.Core.run, h']
  rfl

theorem run_of_refused {k : Nat} {s : State} {f : Refusal} (h : step s = .refused f) : run (k + 1) s = .refused f := by
  have h' : core.step s = .refused f := h
  simp only [run, Host.Core.run, h']
  rfl

/-- Runs from agreeing states go the same way, step by step. -/
theorem run_agree {s t : State} (k : Nat) (h : Agree s t) : AgreeResult (run k s) (run k t) := by
  induction k generalizing s t with
  | zero => exact h
  | succ k ih =>
    rcases agreeResult_cases (step_agree h) with ⟨u, v, hs, ht, huv⟩ | ⟨f, hs, ht⟩ | ⟨f, hs, ht⟩
    · rw [run_succ hs, run_succ ht]
      exact ih huv
    · rw [run_of_fault hs, run_of_fault ht]
      rfl
    · rw [run_of_refused hs, run_of_refused ht]
      rfl

end Sys2Proof

namespace Sys2Proof.Proofs

open Machine

/-- Settles O37: by the ways a step can end; a command's own effect keeps RegInv, and completion clears BUSY. -/
theorem stepKeepsInv : Obligations.StepKeepsInv := fun _ _ hs h => step_keeps_inv hs h

/-- Settles O57: the ports read only what agrees, and so does every update of the state. -/
theorem hiddenValuesNeverReachPorts : Obligations.HiddenValuesNeverReachPorts := fun _ _ h => ⟨h.samePorts, step_agree h⟩

/-- Settles O19: a command that neither compresses nor starts a message keeps A, B, C. -/
theorem chainWriters : Obligations.ChainWriters := by
  intro i s t h hcv
  rcases exec_compresses_or_keeps h with ⟨-, hk | hi⟩ | hc
  · exact absurd hk hcv
  · exact .inl hi
  · exact .inr hc

/-- Settles O20: a command turned away keeps BLKCNT, an ABSORB adds the block ends it reaches, a FINAL its frames. -/
theorem compressionsPerCommand : Obligations.CompressionsPerCommand := by
  intro i s t h
  cases i with
  | nop => exact congrArg State.blkcnt (exec_nop_next h)
  | init arg =>
    rcases exec_init_effect h with ⟨ha, w, -, rfl⟩ | ⟨ha, rfl⟩
    · exact (if_pos ha).symm
    · exact (if_neg ha).symm
  | absorb n data =>
    rcases exec_absorb_effect h with ⟨hn, ht⟩ | ⟨ha, ht⟩
    · exact ht.blkcnt.trans (if_neg fun ⟨he, h1, h8, hp, _⟩ => hn ⟨he, h1, h8, hp⟩).symm
    · rw [absorb_accepted_blkcnt ha ht]
      obtain ⟨he, h1, h8, hp⟩ := ha
      simp [he, h1, h8, hp]
  | final arg =>
    rcases exec_final_effect h with ⟨hn, ht⟩ | ⟨ha, tail, hread, rfl⟩
    · exact ht.blkcnt.trans (if_neg hn).symm
    · exact (finishMessage_blkcnt hread).trans (if_pos ha).symm
  | _ => exact (exec_reserved_turnedAway rfl h).blkcnt

/-- Settles O21: an accepted ABSORB adds its count of bytes, and compressing frames keeps LEN. -/
theorem lenCountsMessageBytes : Obligations.LenCountsMessageBytes := by
  intro i s t h
  cases i with
  | nop => exact congrArg State.len (exec_nop_next h)
  | init arg =>
    rcases exec_init_effect h with ⟨ha, w, -, rfl⟩ | ⟨ha, rfl⟩
    · exact (if_pos ha).symm
    · exact (if_neg ha).symm
  | absorb n data =>
    rcases exec_absorb_effect h with ⟨hn, ht⟩ | ⟨ha, ht⟩
    · exact ht.len.trans (if_neg hn).symm
    · rw [absorbBytes_len ht, lanes_length]
      exact (if_pos ha).symm
  | final arg =>
    rcases exec_final_effect h with ⟨-, ht⟩ | ⟨-, tail, -, rfl⟩
    · exact ht.len
    · exact compressFrames_len _ s
  | _ => exact (exec_reserved_turnedAway rfl h).len

/-- Settles O22: absorbing keeps PHASE; the two ends of INIT and an accepted FINAL write it. -/
theorem phaseWriters : Obligations.PhaseWriters := by
  intro i s t h
  cases i with
  | nop => exact congrArg State.phase (exec_nop_next h)
  | init arg =>
    rcases exec_init_effect h with ⟨ha, w, -, rfl⟩ | ⟨ha, rfl⟩
    · exact (if_pos ha).symm
    · exact (if_neg ha).symm
  | absorb n data =>
    rcases exec_absorb_effect h with ⟨-, ht⟩ | ⟨-, ht⟩
    · exact ht.phase
    · exact (absorbBytes_keeps ht).phase
  | final arg =>
    rcases exec_final_effect h with ⟨hn, ht⟩ | ⟨ha, tail, -, rfl⟩
    · exact ht.phase.trans (if_neg hn).symm
    · exact (if_pos ha).symm
  | _ => exact (exec_reserved_turnedAway rfl h).phase

/-- Settles O23: of the ways a command can go on only a legal INIT writes OUTW, with the width its ARG selects. -/
theorem outwWriters : Obligations.OutwWriters := by
  intro i s t h
  rcases exec_next_cases h with ht | ⟨arg, w, rfl, -, hw, rfl⟩ | ⟨arg, -, -, rfl⟩ | ⟨n, data, -, -, ht⟩ |
    ⟨-, -, tail, -, rfl⟩
  · exact .inl ht.outw
  · right
    rcases widthOf_eq_some hw with ⟨rfl, rfl⟩ | ⟨rfl, rfl⟩ | ⟨rfl, rfl⟩ <;> simp
  · exact .inl rfl
  · exact .inl (absorbBytes_keeps ht).outw
  · exact .inl (compressFrames_keeps _ s).outw

/-- Settles O24: under a sticky error a command other than INIT is turned away with nothing recorded. -/
theorem onlyInitLeavesAnError : Obligations.OnlyInitLeavesAnError := by
  intro i s t he h hchange
  rcases exec_next_cases h with ht | ⟨arg, w, rfl, ha, -, -⟩ | ⟨arg, rfl, -, rfl⟩ | ⟨n, data, -, ⟨hf, -⟩, -⟩ |
    ⟨-, ⟨hf, -⟩, -⟩
  · rw [ht.eq_of_err he] at hchange
    simp [he] at hchange
  · exact ⟨arg, rfl, fun _ => ha⟩
  · exact ⟨arg, rfl, nofun⟩
  · simp [he] at hf
  · simp [he] at hf

/-- Settles O25: a command that does not compress keeps the hidden registers. -/
theorem hiddenRegisterWriters : Obligations.HiddenRegisterWriters := by
  intro i s t h hchange
  rcases exec_compresses_or_keeps h with ⟨⟨hs, hx, hr⟩, -⟩ | ⟨n, data, hi, hk⟩ | ⟨hi, hk⟩
  · simp [hs, hx, hr] at hchange
  · exact ⟨.inl ⟨n, data, hi⟩, .inl hk⟩
  · exact ⟨.inr hi, hk⟩

/-- Settles O27: each field is a slice of the appended word. -/
theorem statusLayout : Obligations.StatusLayout := by
  refine ⟨fun s hb hr => ⟨statusWord s, statusO_ready (cmdReady_eq_true hb hr), ?_⟩, fun s hb hr => ?_, fun s hr => ?_,
    by decide⟩
  · obtain ⟨phase, outw, zero6, errcode, zero12, buflen, zero22⟩ := statusWord_slices s
    refine ⟨(statusWord_busy s).trans hb, statusWord_err s, ?_, ?_, zero6, ?_, zero12, ?_, zero22⟩
    · rw [phase]
      cases s.phase <;> rfl
    · rw [outw]
      cases s.outw <;> rfl
    · rw [errcode]
      cases s.errcode <;> rfl
    · rw [buflen, bufLen_toNat]
  · exact ⟨statusO_not_ready (cmdReady_eq_false (.inl hb)), (statusBusyO_eq hr).trans (congrArg some hb)⟩
  · exact ⟨statusO_not_ready (cmdReady_eq_false (.inr hr)), statusBusyO_in_reset hr⟩

/-- Settles O58: the two reset states agree, for PHASE is IDLE there, and runs from agreeing states agree. -/
theorem resetRegistersNeverObserved : Obligations.ResetRegistersNeverObserved := by
  intro k ins cv saved x rc buf c
  exact run_agree k ⟨rfl, rfl, rfl, rfl, rfl, rfl, rfl, rfl, fun hp => absurd rfl hp, nofun⟩

/-- Settles O12: an accepted FINAL leaves BUF empty, and nothing can be read from an empty BUF. -/
theorem finalLeavesBufUnspecified : Obligations.FinalLeavesBufUnspecified := by
  intro s t hp h he p
  rcases exec_final_effect h with ⟨hn, -⟩ | ⟨-, tail, -, rfl⟩
  · exact absurd ⟨he, rfl, hp⟩ hn
  · rfl

/-- Settles O36: BUF is empty, no message is open, and no error is recorded. -/
theorem resetMeetsInv : Obligations.ResetMeetsInv := inv_reset

end Sys2Proof.Proofs

/-! PROOFS. A block as eight little-endian words (spec/20_memory.md R52). -/

namespace Sys2Proof.Machine

/-- R52: the eight fields of `blockWords` are the words of the block, in order. -/
theorem blockWords_word (block : List Byte) {i : Nat} (h : i < 8) : (blockWords block).word i = blockWord block i := by
  interval_cases i <;> rfl

/-- R52: byte j of block word i is byte 8i + j of the block. -/
theorem some_bytek_blockWord {block : List Byte} {i j : Nat} (hj : j < 8) (hin : 8 * i + j < block.length) :
    some (bytek (blockWord block i) j) = block[8 * i + j]? := by
  have inWord : j < ((block.drop (8 * i)).take 8).length := by
    rw [List.length_take, List.length_drop]
    omega
  rw [blockWord, some_bytek_le64 hj inWord, List.getElem?_take_of_lt hj, List.getElem?_drop]

end Sys2Proof.Machine

namespace Sys2Proof.Proofs

open Machine

/-- Settles O46: word i of the block is the le64 of its own eight bytes, and le64 keeps each byte's place. -/
theorem blockWordsLittleEndian : Obligations.BlockWordsLittleEndian := by
  intro block i j hlen hi hj
  rw [blockWords_word block hi]
  exact some_bytek_blockWord hj (by omega)

end Sys2Proof.Proofs

/-! PROOFS. The command word (spec/30_encoding.md R70 to R77): its fields, the decoder on each opcode, and encoding. -/

namespace Sys2Proof

open Machine

/-! ## The fields of a word -/

/-- R70: a word is its OP, ARG and DATA, in that order. -/
theorem append_fields (w : Command) : opOf w ++ argOf w ++ dataOf w = w := by
  rw [opOf, argOf, dataOf, BitVec.extractLsb'_append_extractLsb'_eq_extractLsb' (show 68 = 64 + 4 from rfl),
    BitVec.extractLsb'_append_extractLsb'_eq_extractLsb' (show 64 = 0 + 64 from rfl)]
  exact BitVec.extractLsb'_eq_self

/-- R71: the number OP*2^68 + ARG*2^64 + DATA is the word with these fields. -/
theorem ofNat_fields (op arg : BitVec 4) (data : Word) :
    BitVec.ofNat 72 (op.toNat * 2 ^ 68 + arg.toNat * 2 ^ 64 + data.toNat) = op ++ arg ++ data := by
  apply BitVec.eq_of_toNat_eq
  have := op.isLt
  have := arg.isLt
  have := data.isLt
  rw [BitVec.toNat_ofNat, BitVec.toNat_append, BitVec.toNat_append, ← Nat.shiftLeft_add_eq_or_of_lt data.isLt,
    ← Nat.shiftLeft_add_eq_or_of_lt arg.isLt, Nat.shiftLeft_eq, Nat.shiftLeft_eq]
  omega

@[simp] theorem opOf_encode (i : Instr) : opOf (encode i) = i.opcode := opOf_append ..

@[simp] theorem argOf_encode (i : Instr) : argOf (encode i) = i.argField := argOf_append ..

@[simp] theorem dataOf_encode (i : Instr) : dataOf (encode i) = i.dataField := dataOf_append ..

/-! ## The decoder on each opcode -/

/-- R73: OP is NOP's, INIT's, ABSORB's, FINAL's, or reserved. -/
theorem op_cases (op : BitVec 4) : op = 0 ∨ op = 1 ∨ op = 2 ∨ op = 3 ∨ 4 ≤ op.toNat := by
  revert op
  decide

theorem decode_nop {w : Command} (h : opOf w = 0) : decode w = .nop := by simp [decode, h]

theorem decode_init {w : Command} (h : opOf w = 1) : decode w = .init (argOf w) := by simp [decode, h]

theorem decode_absorb {w : Command} (h : opOf w = 2) : decode w = .absorb (argOf w) (dataOf w) := by simp [decode, h]

theorem decode_final {w : Command} (h : opOf w = 3) : decode w = .final (argOf w) := by simp [decode, h]

/-- R73: the decoder answers a command with the OP of the word. -/
theorem opcode_decode (w : Command) : (decode w).opcode = opOf w := by
  unfold decode
  generalize opOf w = op
  obtain ⟨k, hk⟩ := op
  interval_cases k <;> rfl

theorem decode_reserved {w : Command} (h : 4 ≤ (opOf w).toNat) : (decode w).isReserved = true := by
  rw [Instr.isReserved, opcode_decode]
  exact decide_eq_true h

/-- R74: encoding keeps everything the decoder reads. -/
theorem decode_encode (i : Instr) : decode (encode i) = i := by
  rw [decode, opOf_encode, argOf_encode, dataOf_encode]
  cases i <;> rfl

/-! ## The lanes an ABSORB reads -/

theorem lanes_congr {n : BitVec 4} {data data' : Word} (h : ∀ j, j < n.toNat → bytek data j = bytek data' j) :
    lanes n data = lanes n data' := List.map_congr_left fun j hj => h j (List.mem_range.mp hj)

/-- R77: ABSORB reads DATA through its lanes only. -/
theorem exec_absorb_lanes {n : BitVec 4} {data data' : Word} (h : lanes n data = lanes n data') (s : State) :
    exec (.absorb n data) s = exec (.absorb n data') s := by
  show execAbsorb n data s = execAbsorb n data' s
  rw [execAbsorb, execAbsorb, h]

/-! ## The reserved opcodes -/

/-- R75: a reserved opcode has no legal encoding. -/
theorem wellFormed_reserved {i : Instr} (h : i.isReserved = true) : i.wellFormed = false := by
  cases i with
  | nop | init | absorb | final => simp [Instr.isReserved, Instr.opcode] at h
  | _ => rfl

/-- R186: a reserved opcode has no operands, so it is encoded as its OP and zeros. -/
theorem encode_reserved {i : Instr} (h : i.isReserved = true) : encode i = i.opcode ++ 0#4 ++ 0#64 := by
  cases i with
  | nop | init | absorb | final => simp [Instr.isReserved, Instr.opcode] at h
  | _ => rfl

/-! ## Masks -/

/-- Masking a word masks its fields. -/
theorem and_fields (w : Command) (op arg : BitVec 4) (data : Word) :
    w &&& (op ++ arg ++ data) = (opOf w &&& op) ++ (argOf w &&& arg) ++ (dataOf w &&& data) := by
  conv_lhs => rw [← append_fields w]
  rw [BitVec.and_append, BitVec.and_append]

/-- The mask of OP, which is the row mask, keeps OP and clears the rest (R73). -/
theorem and_opWord (w : Command) : w &&& 0xF00000000000000000 = opOf w ++ 0#4 ++ 0#64 := by
  rw [show (0xF00000000000000000 : Command) = BitVec.allOnes 4 ++ 0#4 ++ 0#64 from rfl, and_fields, BitVec.and_allOnes,
    BitVec.and_zero, BitVec.and_zero]

theorem and_opArgWord (w : Command) : w &&& 0xFF0000000000000000 = opOf w ++ argOf w ++ 0#64 := by
  rw [show (0xFF0000000000000000 : Command) = BitVec.allOnes 4 ++ BitVec.allOnes 4 ++ 0#64 from rfl, and_fields,
    BitVec.and_allOnes, BitVec.and_allOnes, BitVec.and_zero]

theorem and_wholeWord (w : Command) : w &&& 0xFFFFFFFFFFFFFFFFFF = w := BitVec.and_allOnes

/-- R73: a row's pattern is its OP and zeros. -/
theorem rowPattern_eq (i : Instr) : rowPattern i = i.opcode ++ 0#4 ++ 0#64 := by
  cases i <;> simp only [rowPattern, Instr.opcode] <;> decide

end Sys2Proof

namespace Sys2Proof.Proofs

open Machine

/-- Settles O2: encoding writes each field the decoder reads, and the decoder selects the row of its OP. -/
theorem decodeInvertsEncode : Obligations.DecodeInvertsEncode := decode_encode

/-- Settles O4: masking leaves the word's OP, which is the OP of what it decodes to; a row's pattern is its own OP. -/
theorem rowPatternsAreExact : Obligations.RowPatternsAreExact := by
  intro w i
  rw [opMask, and_opWord, rowPattern_eq, opcode_decode]
  constructor
  · intro h
    simpa only [opOf_append] using congrArg opOf h
  · intro h
    rw [h]

/-- Settles O3: by OP, each mask keeps exactly the fields that the decoded command is encoded with. -/
theorem encodeClearsOnlyIgnoredBits : Obligations.EncodeClearsOnlyIgnoredBits := by
  intro w
  rcases op_cases (opOf w) with h | h | h | h | h
  · rw [decode_nop h, if_neg (by simp [h]), if_neg (by simp [h]), and_opWord, h]
    rfl
  · rw [decode_init h, if_pos (.inl h), and_opArgWord, h]
    rfl
  · rw [decode_absorb h, if_neg (by simp [h]), if_pos h, and_wholeWord]
    exact (congrArg (· ++ argOf w ++ dataOf w) h.symm).trans (append_fields w)
  · rw [decode_final h, if_pos (.inr h), and_opArgWord, h]
    rfl
  · rw [encode_reserved (decode_reserved h), opcode_decode, if_neg (by bv_omega), if_neg (by bv_omega), and_opWord]

/-- Settles O1: the number is the word with the fields OP, ARG and DATA, and the decoder selects on OP. -/
theorem opcodeMap : Obligations.OpcodeMap := by
  refine ⟨fun arg data => ?_, rfl, by decide, fun arg data => decide_eq_true_iff, fun arg => decide_eq_true_iff,
    fun _ => wellFormed_reserved⟩
  intro w
  have word (op : Nat) (h : op < 16) : w op = BitVec.ofNat 4 op ++ arg ++ data := by
    have fields := ofNat_fields (BitVec.ofNat 4 op) arg data
    rwa [BitVec.toNat_ofNat, Nat.mod_eq_of_lt h] at fields
  simp (disch := decide) [word, decode, opOf_append, argOf_append, dataOf_append]

/-- Settles O5: the decoder reads OP and the fields of its row, and ABSORB reads only the lanes ARG counts. -/
theorem ignoredBitsDoNotMatter : Obligations.IgnoredBitsDoNotMatter := by
  intro v w hsame s
  obtain ⟨op, arg, data⟩ := hsame
  rcases op_cases (opOf v) with h | h | h | h | h
  · rw [decode_nop h, decode_nop (op ▸ h)]
  · rw [decode_init h, decode_init (op ▸ h), arg (.inl h)]
  · rw [decode_absorb h, decode_absorb (op ▸ h), ← arg (.inr (.inl h))]
    exact exec_absorb_lanes (lanes_congr (data h)) s
  · rw [decode_final h, decode_final (op ▸ h), arg (.inr (.inr h))]
  · rw [exec_reserved (decode_reserved h), exec_reserved (decode_reserved (op ▸ h))]

/-- Settles O6: the words, run through the decoder. -/
theorem writtenWordsDecode : Obligations.WrittenWordsDecode := by
  unfold Obligations.WrittenWordsDecode
  decide

end Sys2Proof.Proofs

/-! PROOFS. The blocks of a message and of its padding (spec/40_padder.md R100 to R106). -/

namespace Sys2Proof.Machine

/-! ## A byte sequence in pieces -/

/-- Consecutive pieces of n bytes, joined, are the sequence up to where the last one ends. -/
theorem flatten_pieces (n m : Nat) (bs : List Byte) :
    ((List.range m).map fun i => (bs.drop (n * i)).take n).flatten = bs.take (n * m) := by
  induction m with
  | zero => simp
  | succ m ih =>
    rw [List.range_succ, List.map_append, List.flatten_append, ih, Nat.mul_succ, List.take_add]
    simp

/-- The bytes after the last full block (R102). -/
def tailOf (msg : List Byte) : List Byte := msg.drop (64 * (msg.length / 64))

@[simp] theorem tailOf_length (msg : List Byte) : (tailOf msg).length = msg.length % 64 := by
  rw [tailOf, List.length_drop]
  omega

theorem flatten_fullBlocks_append_tailOf (msg : List Byte) : (fullBlocks msg).flatten ++ tailOf msg = msg := by
  rw [fullBlocks, flatten_pieces, tailOf, List.take_append_drop]

theorem fullBlocks_length {msg block : List Byte} (h : block ∈ fullBlocks msg) : block.length = 64 := by
  obtain ⟨i, hi, rfl⟩ := List.mem_map.mp h
  have := List.mem_range.mp hi
  rw [List.length_take, List.length_drop]
  omega

/-- A whole block in front of a sequence is its first full block. -/
theorem fullBlocks_block_append {block : List Byte} (h : block.length = 64) (bs : List Byte) :
    fullBlocks (block ++ bs) = block :: fullBlocks bs := by
  have count : (block ++ bs).length / 64 = bs.length / 64 + 1 := by
    rw [List.length_append, h]
    omega
  rw [fullBlocks, count, List.range_succ_eq_map, List.map_cons, List.map_map, fullBlocks]
  congr 1
  · simp [← h]
  · refine List.map_congr_left fun i _ => ?_
    have past : 64 * (i + 1) = block.length + 64 * i := by omega
    rw [Function.comp_apply, Nat.succ_eq_add_one, past, List.drop_length_add_append]

/-- Whole blocks followed by less than a block are the full blocks of the sequence. -/
theorem fullBlocks_flatten_append {blocks : List (List Byte)} {tail : List Byte} (hb : ∀ block ∈ blocks, block.length = 64)
    (ht : tail.length < 64) : fullBlocks (blocks.flatten ++ tail) = blocks := by
  induction blocks with
  | nil => simp [fullBlocks, Nat.div_eq_of_lt ht]
  | cons block blocks ih =>
    obtain ⟨h, hbs⟩ := List.forall_mem_cons.mp hb
    rw [List.flatten_cons, List.append_assoc, fullBlocks_block_append h, ih hbs]

/-! ## The padding -/

/-- R103, R106: the frames FINAL makes are the tail followed by the padding of the message. -/
theorem flatten_tailFrames (msg : List Byte) :
    (tailFrames (tailOf msg) (BitVec.ofNat 64 msg.length)).flatten
      = tailOf msg ++ [marker] ++ List.replicate (padZeros msg.length) 0 ++ lengthField (BitVec.ofNat 64 msg.length) := by
  rw [tailFrames, tailOf_length]
  split
  · have zeros : padZeros msg.length = 55 - msg.length % 64 := by
      rw [padZeros]
      omega
    simp [zeros]
  · have zeros : padZeros msg.length = (63 - msg.length % 64) + 56 := by
      rw [padZeros]
      omega
    simp [zeros, List.replicate_add]

/-- R102, R103, R106: the full blocks of a message and then the frames of its tail are the blocks of Pad(M). -/
theorem fullBlocks_pad (msg : List Byte) :
    fullBlocks (pad msg) = fullBlocks msg ++ tailFrames (tailOf msg) (BitVec.ofNat 64 msg.length) := by
  have padded : pad msg = (fullBlocks msg ++ tailFrames (tailOf msg) (BitVec.ofNat 64 msg.length)).flatten ++ [] := by
    rw [List.append_nil, List.flatten_append, flatten_tailFrames, ← List.append_assoc, ← List.append_assoc,
      ← List.append_assoc, flatten_fullBlocks_append_tailOf, pad]
  rw [padded]
  refine fullBlocks_flatten_append (fun block h => ?_) (by simp)
  rcases List.mem_append.mp h with h | h
  · exact fullBlocks_length h
  · exact tailFrames_length _ (by rw [tailOf_length]; omega) block h

/-- R101: the number of blocks of Pad(M). -/
theorem fullBlocks_pad_count (msg : List Byte) :
    (fullBlocks (pad msg)).length = msg.length / 64 + if msg.length % 64 ≤ 55 then 1 else 2 := by
  rw [fullBlocks_pad, List.length_append, fullBlocks_count, tailFrames_count, tailOf_length]

theorem foldBlocks_append (ch : Chain) (bs cs : List (List Byte)) :
    foldBlocks ch (bs ++ cs) = foldBlocks (foldBlocks ch bs) cs := List.foldl_append ..

end Sys2Proof.Machine

/-! PROOFS. An open message (spec/10_state.md R33): what INIT, ABSORB and FINAL do to it. -/

namespace Sys2Proof.Machine

/-! ## One byte more -/

theorem tailOf_flatten_append {blocks : List (List Byte)} {tail : List Byte} (hb : ∀ block ∈ blocks, block.length = 64)
    (ht : tail.length < 64) : tailOf (blocks.flatten ++ tail) = tail := by
  have cut := flatten_fullBlocks_append_tailOf (blocks.flatten ++ tail)
  rw [fullBlocks_flatten_append hb ht] at cut
  exact List.append_cancel_left cut

/-- A message with a byte more is its full blocks and then its tail with that byte. -/
theorem append_byte_eq (msg : List Byte) (b : Byte) : msg ++ [b] = (fullBlocks msg).flatten ++ (tailOf msg ++ [b]) := by
  rw [← List.append_assoc, flatten_fullBlocks_append_tailOf]

/-- A byte that does not end the block goes to the tail. -/
theorem append_byte_inside {msg : List Byte} (b : Byte) (h : msg.length % 64 + 1 < 64) :
    fullBlocks (msg ++ [b]) = fullBlocks msg ∧ tailOf (msg ++ [b]) = tailOf msg ++ [b] := by
  have short : (tailOf msg ++ [b]).length < 64 := by simpa using h
  rw [append_byte_eq]
  exact ⟨fullBlocks_flatten_append (fun _ => fullBlocks_length) short,
    tailOf_flatten_append (fun _ => fullBlocks_length) short⟩

/-- A byte that ends the block makes the tail a full block (R184). -/
theorem append_byte_ends_block {msg : List Byte} (b : Byte) (h : msg.length % 64 + 1 = 64) :
    fullBlocks (msg ++ [b]) = fullBlocks msg ++ [tailOf msg ++ [b]] ∧ tailOf (msg ++ [b]) = [] := by
  have blocks : ∀ block ∈ fullBlocks msg ++ [tailOf msg ++ [b]], block.length = 64 := by
    intro block hm
    rcases List.mem_append.mp hm with hm | hm
    · exact fullBlocks_length hm
    · rw [List.mem_singleton.mp hm]
      simpa using h
  have cut : msg ++ [b] = (fullBlocks msg ++ [tailOf msg ++ [b]]).flatten ++ [] := by
    rw [append_byte_eq, List.append_nil, List.flatten_append, List.flatten_singleton]
  rw [cut]
  exact ⟨fullBlocks_flatten_append blocks (by decide), tailOf_flatten_append blocks (by decide)⟩

/-- A byte written right after the bytes read is read after them. -/
theorem memRead_memWrite_end {m : Memory} {n : Nat} {bs : List Byte} (b : Byte) (h : memRead m 0 n = some bs) :
    memRead (memWrite m n b) 0 (n + 1) = some (bs ++ [b]) := by
  obtain ⟨hl, hr⟩ := memRead_eq_some.mp h
  refine memRead_eq_some.mpr ⟨by simp [hl], fun k hk => ?_⟩
  rw [Nat.zero_add, readByte_memWrite]
  by_cases hkn : k = n
  · simp [hkn, ← hl]
  · have before : k < n := by omega
    rw [if_neg hkn, List.getElem?_append_left (hl ▸ before), ← hr k before, Nat.zero_add]

end Sys2Proof.Machine

namespace Sys2Proof

open Machine

/-! ## INIT, ABSORB and FINAL on a message -/

section OpenMessage

variable {msg : List Byte} {s : State}

/-- R183: an open message with nothing absorbed. -/
theorem openMessage_startMessage (w : Width) (s : State) : OpenMessage [] (startMessage w s) :=
  ⟨rfl, rfl, rfl, rfl, rfl, fun p hp => by simp [readByte_zeroBuf hp]⟩

theorem exec_init_widthArg (w : Width) (s : State) : exec (.init (widthArg w)) s = .next (startMessage w s) := by
  cases w <;> rfl

/-- R23: the offset of the next byte is the number of tail bytes. -/
theorem OpenMessage.bufOffset_eq (h : OpenMessage msg s) : bufOffset s = msg.length % 64 := by
  rw [bufOffset, h.len, BitVec.toNat_ofNat]
  omega

theorem OpenMessage.memRead_tail (h : OpenMessage msg s) : memRead s.buf 0 (bufOffset s) = some (tailOf msg) := by
  rw [h.bufOffset_eq]
  exact h.tail

/-- An open message in terms of its full blocks and its tail. -/
theorem OpenMessage.of_blocks (phase : s.phase = .absorb) (len : s.len = BitVec.ofNat 64 msg.length)
    (tail : memRead s.buf 0 (tailOf msg).length = some (tailOf msg)) (cv : s.cv = foldBlocks iv (fullBlocks msg))
    (blkcnt : s.blkcnt = BitVec.ofNat 64 (fullBlocks msg).length) (specified : BufSpecified s) : OpenMessage msg s :=
  ⟨phase, len, tailOf_length msg ▸ tail, cv, fullBlocks_count msg ▸ blkcnt, specified⟩

/-- R184: one byte extends the open message. -/
theorem OpenMessage.exists_absorbByte (h : OpenMessage msg s) (b : Byte) :
    ∃ t, absorbByte b s = some t ∧ OpenMessage (msg ++ [b]) t := by
  have len : (storeByte b s).len = BitVec.ofNat 64 (msg ++ [b]).length := by
    rw [storeByte_len, h.len, List.length_append, BitVec.ofNat_add]
    rfl
  have specified := (storeByte_keeps b s).specified h.bufSpecified
  have offset : bufOffset (storeByte b s) = (msg.length % 64 + 1) % 64 := by rw [bufOffset_storeByte, h.bufOffset_eq]
  have read : memRead (storeByte b s).buf 0 (msg.length % 64 + 1) = some (tailOf msg ++ [b]) := by
    rw [storeByte_buf, h.bufOffset_eq]
    exact memRead_memWrite_end b h.tail
  have blkcnt : s.blkcnt = BitVec.ofNat 64 (fullBlocks msg).length := by rw [h.blkcnt, fullBlocks_count]
  by_cases ends : msg.length % 64 + 1 = 64
  · obtain ⟨blocks, tail⟩ := append_byte_ends_block b ends
    rw [ends] at read
    refine ⟨compressBlock (tailOf msg ++ [b]) (storeByte b s), ?_, .of_blocks h.isOpen len ?_ ?_ ?_ specified⟩
    · rw [absorbByte, if_pos (by omega), read]
      rfl
    · rw [tail]
      rfl
    · rw [blocks, foldBlocks_append, ← h.cv]
      rfl
    · rw [blocks, List.length_append, BitVec.ofNat_add, ← blkcnt]
      rfl
  · obtain ⟨blocks, tail⟩ := append_byte_inside (msg := msg) b (by omega)
    refine ⟨storeByte b s, ?_, .of_blocks h.isOpen len ?_ ?_ ?_ specified⟩
    · rw [absorbByte, if_neg (by omega)]
    · rw [tail, List.length_append, tailOf_length]
      exact read
    · rw [blocks]
      exact h.cv
    · rw [blocks]
      exact blkcnt

/-- R184, R33: absorbing bytes extends the open message by them, in order. -/
theorem OpenMessage.exists_absorbBytes (h : OpenMessage msg s) (bs : List Byte) :
    ∃ t, absorbBytes bs s = some t ∧ OpenMessage (msg ++ bs) t := by
  induction bs generalizing msg s with
  | nil => exact ⟨s, rfl, by rwa [List.append_nil]⟩
  | cons b bs ih =>
    obtain ⟨u, hu, open_u⟩ := h.exists_absorbByte b
    obtain ⟨t, ht, open_t⟩ := ih open_u
    exact ⟨t, by rw [absorbBytes, hu, Option.bind_some, ht], by rwa [List.append_assoc] at open_t⟩

/-- R184, R33, R102: an accepted ABSORB extends the open message by its lanes. -/
theorem OpenMessage.exec_absorb (h : OpenMessage msg s) {n : BitVec 4} {data : Word} (accepted : AbsorbAccepted n s) :
    ∃ t, exec (.absorb n data) s = .next t ∧ OpenMessage (msg ++ lanes n data) t ∧ AbsorbKeeps s t := by
  obtain ⟨he, h1, h8, hp⟩ := accepted
  obtain ⟨t, ht, open_t⟩ := h.exists_absorbBytes (lanes n data)
  refine ⟨t, ?_, open_t, absorbBytes_keeps ht⟩
  show execAbsorb n data s = _
  rw [execAbsorb_open he (decide_eq_true ⟨h1, h8⟩) hp, ht]
  rfl

/-- R185: FINAL frames the tail of the open message. -/
theorem OpenMessage.exec_final (h : OpenMessage msg s) (he : s.err = false) :
    exec (.final 0) s = .next (finishMessage (tailOf msg) s) := by
  rw [Machine.exec_final, execFinal_open he h.isOpen, h.memRead_tail]
  rfl

/-- R185, R106: FINAL leaves the chaining value of the last block of Pad(M). -/
theorem OpenMessage.finishMessage_cv (h : OpenMessage msg s) :
    (finishMessage (tailOf msg) s).cv = foldBlocks iv (fullBlocks (pad msg)) := by
  obtain ⟨cv, -⟩ := finishMessage_spec (tailOf msg) s
  rw [cv, h.cv, h.len, fullBlocks_pad, foldBlocks_append]

/-- R27, R101: FINAL leaves in BLKCNT the number of blocks of Pad(M). -/
theorem OpenMessage.finishMessage_blkcnt (h : OpenMessage msg s) :
    (finishMessage (tailOf msg) s).blkcnt = BitVec.ofNat 64 (fullBlocks (pad msg)).length := by
  obtain ⟨-, blkcnt, -⟩ := finishMessage_spec (tailOf msg) s
  rw [blkcnt, h.blkcnt, fullBlocks_pad_count, tailOf_length, BitVec.ofNat_add]

end OpenMessage

end Sys2Proof

namespace Sys2Proof.Machine

/-! ## The digest on the port -/

theorem take_digestBytes (s : State) : (digestBytes s).take (digestLen s.outw) = truncate (serialize s.cv) s.outw := by
  have length : (truncate (serialize s.cv) s.outw).length = digestLen s.outw := by
    rw [truncate, List.length_take, serialize_length]
    exact Nat.min_eq_left (digestLen_le _)
  rw [digestBytes, ← length]
  exact List.take_left

theorem digestO_done {s : State} (hb : s.busy = false) (hr : (pins s).rst = false) (hp : s.phase = .done) :
    digestO s = some (packBytes 192 (digestBytes s)) := by
  rw [digestO, cmdReady_eq_true hb hr, hp]
  rfl

end Sys2Proof.Machine

/-! PROOFS. Streams of commands at the port (spec/43_commands.md R180), and the pseudo-instruction HASH (R79). -/

namespace Sys2Proof

open Machine

/-! ## A command presented -/

/-- R180, R74: a presented command is the one that executes. -/
theorem step_present {s : State} {i : Instr} {rest : List PortIn} (hb : s.busy = false)
    (hin : s.inputs = present i :: rest) :
    step s = completeCommand (exec i (acceptCommand (passEdge s))) := by
  have hpins : pins s = present i := by rw [pins, hin, List.headD_cons]
  rcases step_cases s with ⟨hr, -⟩ | ⟨-, hbusy, -⟩ | ⟨-, -, hv, -⟩ | ⟨-, -, -, e⟩
  · simp [hpins, present] at hr
  · simp [hb] at hbusy
  · simp [hpins, present] at hv
  · rw [e, hpins, present, decode_encode]

/-- OpenMessage reads neither the pins nor BUSY. -/
theorem OpenMessage.with_pins_busy {msg : List Byte} {s : State} (inputs : List PortIn) (busy : Bool)
    (h : OpenMessage msg s) :
    OpenMessage msg { s with inputs := inputs, busy := busy } :=
  ⟨h.isOpen, h.len, h.tail, h.cv, h.blkcnt, h.bufSpecified⟩

/-! ## INIT, ABSORBs and FINAL, one after another -/

/-- The core between the commands of a stream that hashes at width w: M is absorbed, no error is recorded, and the entries
`rest` of the pins are still to come. -/
structure MidStream (w : Width) (msg : List Byte) (rest : List PortIn) (s : State) : Prop where
  message : OpenMessage msg s
  outw : s.outw = w
  err : s.err = false
  busy : s.busy = false
  inputs : s.inputs = rest

/-- The core after such a stream: the message M is hashed. -/
structure Hashed (w : Width) (msg : List Byte) (rest : List PortIn) (s : State) : Prop where
  phase : s.phase = .done
  cv : s.cv = foldBlocks iv (fullBlocks (pad msg))
  len : s.len = BitVec.ofNat 64 msg.length
  blkcnt : s.blkcnt = BitVec.ofNat 64 (fullBlocks (pad msg)).length
  outw : s.outw = w
  err : s.err = false
  busy : s.busy = false
  inputs : s.inputs = rest

section Stream

variable {w : Width} {msg : List Byte} {rest : List PortIn} {s : State}

/-- R183: INIT starts a stream whatever the state. -/
theorem step_init (hb : s.busy = false) (hin : s.inputs = present (.init (widthArg w)) :: rest) :
    ∃ t, step s = .next t ∧ MidStream w [] rest t := by
  rw [step_present hb hin, exec_init_widthArg]
  exact ⟨_, rfl, (openMessage_startMessage w _).with_pins_busy _ _, rfl, rfl, rfl, by simp [hin]⟩

/-- R184: a legal ABSORB goes on with the stream. -/
theorem MidStream.step_absorb {n : BitVec 4} {data : Word} (h : MidStream w msg (present (.absorb n data) :: rest) s)
    (h1 : 1 ≤ n.toNat) (h8 : n.toNat ≤ 8) : ∃ t, step s = .next t ∧ MidStream w (msg ++ lanes n data) rest t := by
  have accepted : OpenMessage msg (acceptCommand (passEdge s)) := h.message.with_pins_busy _ _
  obtain ⟨t, ht, message, keeps⟩ := accepted.exec_absorb (data := data) ⟨h.err, h1, h8, accepted.isOpen⟩
  rw [step_present h.busy h.inputs, ht]
  refine ⟨_, rfl, message.with_pins_busy _ _, keeps.outw.trans h.outw, keeps.err.trans h.err, rfl, ?_⟩
  exact keeps.inputs.trans (by simp [h.inputs])

/-- R185: FINAL ends the stream. -/
theorem MidStream.step_final (h : MidStream w msg (present (.final 0) :: rest) s) :
    ∃ t, step s = .next t ∧ Hashed w msg rest t := by
  have accepted : OpenMessage msg (acceptCommand (passEdge s)) := h.message.with_pins_busy _ _
  obtain ⟨-, -, phase, -, len, outw, err, -, -, inputs⟩ := finishMessage_spec (tailOf msg) (acceptCommand (passEdge s))
  rw [step_present h.busy h.inputs, accepted.exec_final h.err]
  refine ⟨_, rfl, phase, accepted.finishMessage_cv, len.trans h.message.len, accepted.finishMessage_blkcnt,
    outw.trans h.outw, err.trans h.err, rfl, inputs.trans ?_⟩
  simp [h.inputs]

/-- R184, R33: a run takes in the ABSORBs of a stream one after another, and goes on from there. -/
theorem MidStream.run_absorbs {chunks : List (BitVec 4 × Word)} (legal : ∀ c ∈ chunks, 1 ≤ c.1.toNat ∧ c.1.toNat ≤ 8)
    (h : MidStream w msg (chunks.map (fun c => present (.absorb c.1 c.2)) ++ rest) s) :
    ∃ t, MidStream w (msg ++ chunks.flatMap fun c => lanes c.1 c.2) rest t
      ∧ ∀ k, run (chunks.length + k) s = run k t := by
  induction chunks generalizing msg s with
  | nil => exact ⟨s, by simpa using h, fun k => by rw [List.length_nil, Nat.zero_add]⟩
  | cons c chunks ih =>
    obtain ⟨⟨h1, h8⟩, legal⟩ := List.forall_mem_cons.mp legal
    obtain ⟨u, hu, mid⟩ := h.step_absorb h1 h8
    obtain ⟨t, ht, hrun⟩ := ih legal mid
    refine ⟨t, by simpa using ht, fun k => ?_⟩
    rw [List.length_cons, Nat.add_right_comm, run_succ hu, hrun]

/-- R165, R106: INIT, legal ABSORBs and FINAL hash the bytes absorbed. -/
theorem run_stream {chunks : List (BitVec 4 × Word)} (hb : s.busy = false)
    (legal : ∀ c ∈ chunks, 1 ≤ c.1.toNat ∧ c.1.toNat ≤ 8)
    (hin : s.inputs = [present (.init (widthArg w))] ++ chunks.map (fun c => present (.absorb c.1 c.2))
      ++ [present (.final 0)] ++ rest) :
    ∃ t, run (chunks.length + 2) s = .next t ∧ Hashed w (chunks.flatMap fun c => lanes c.1 c.2) rest t := by
  obtain ⟨u, hu, start⟩ := step_init hb (by simpa using hin)
  obtain ⟨v, mid, hrun⟩ := start.run_absorbs legal
  obtain ⟨t, ht, hashed⟩ := mid.step_final
  refine ⟨t, ?_, hashed⟩
  calc run (chunks.length + 2) s = run (chunks.length + 1) u := run_succ hu
    _ = run 1 v := hrun 1
    _ = .next t := run_succ ht

/-- R165: the digest of a hashed message. -/
theorem Hashed.truncate_eq (h : Hashed w msg rest s) : truncate (serialize s.cv) s.outw = tigerHash msg w := by
  rw [h.cv, h.outw, tigerHash]

theorem Hashed.take_digestBytes (h : Hashed w msg rest s) : (digestBytes s).take (digestLen w) = tigerHash msg w := by
  rw [← h.truncate_eq, ← Machine.take_digestBytes, h.outw]

/-- R187: the port shows the digest, and zeros from DLEN on. -/
theorem Hashed.digestO_eq (h : Hashed w msg rest s) (hr : (pins s).rst = false) :
    digestO s = some (packBytes 192 (tigerHash msg w ++ List.replicate (24 - digestLen w) 0)) := by
  rw [digestO_done h.busy hr h.phase, digestBytes, h.truncate_eq, h.outw]

end Stream

end Sys2Proof

namespace Sys2Proof.Machine

/-! ## The strings of the assembler -/

/-- The operands of `ABSORB "s"` (R78). -/
def stringOperands (bs : List Byte) : BitVec 4 × Word :=
  (BitVec.ofNat 4 bs.length, le64 (bs ++ List.replicate (8 - bs.length) 0))

theorem absorbString_eq (bs : List Byte) : absorbString bs = .absorb (stringOperands bs).1 (stringOperands bs).2 := rfl

/-- The strings that `ABSORBS "s"` cuts s into (R79). -/
def stringPieces (bs : List Byte) : List (List Byte) :=
  (List.range ((bs.length + 7) / 8)).map fun i => (bs.drop (8 * i)).take 8

theorem absorbStrings_eq (bs : List Byte) : absorbStrings bs = (stringPieces bs).map absorbString := by
  rw [absorbStrings, stringPieces, List.map_map]
  rfl

theorem flatten_stringPieces (bs : List Byte) : (stringPieces bs).flatten = bs := by
  rw [stringPieces, flatten_pieces]
  exact List.take_of_length_le (by omega)

/-- R78: a piece has 1 to 8 bytes. -/
theorem stringPieces_length {bs piece : List Byte} (h : piece ∈ stringPieces bs) : 1 ≤ piece.length ∧ piece.length ≤ 8 := by
  obtain ⟨i, hi, rfl⟩ := List.mem_map.mp h
  have := List.mem_range.mp hi
  rw [List.length_take, List.length_drop]
  omega

theorem stringOperands_count {bs : List Byte} (h : bs.length ≤ 8) : (stringOperands bs).1.toNat = bs.length := by
  rw [stringOperands, BitVec.toNat_ofNat]
  exact Nat.mod_eq_of_lt (by omega)

/-- R78, R55: the lanes of `ABSORB "s"` are the bytes of s. -/
theorem lanes_stringOperands {bs : List Byte} (h : bs.length ≤ 8) :
    lanes (stringOperands bs).1 (stringOperands bs).2 = bs := by
  have count := stringOperands_count h
  apply List.ext_getElem?
  intro j
  by_cases hj : j < bs.length
  · rw [lanes_getElem? (count ▸ hj), stringOperands, some_bytek_le64 (by omega) (by simp; omega),
      List.getElem?_append_left hj]
  · rw [List.getElem?_eq_none (by rw [lanes_length, count]; omega), List.getElem?_eq_none (by omega)]

/-- The operands of the ABSORBs of `HASH w, "s"` (R79). -/
def hashChunks (bs : List Byte) : List (BitVec 4 × Word) := (stringPieces bs).map stringOperands

theorem map_present_hashCommands (w : Width) (bs : List Byte) :
    (hashCommands w bs).map present =
      [present (.init (widthArg w))] ++ (hashChunks bs).map (fun c => present (.absorb c.1 c.2))
        ++ [present (.final 0)] := by
  simp [hashCommands, hashChunks, absorbStrings_eq, absorbString_eq]

theorem hashCommands_length (w : Width) (bs : List Byte) : (hashCommands w bs).length = (hashChunks bs).length + 2 := by
  simp [hashCommands, hashChunks, absorbStrings_eq]

/-- R79: each ABSORB of HASH is legal. -/
theorem hashChunks_legal (bs : List Byte) : ∀ c ∈ hashChunks bs, 1 ≤ c.1.toNat ∧ c.1.toNat ≤ 8 := by
  intro c hc
  obtain ⟨piece, hp, rfl⟩ := List.mem_map.mp hc
  have length := stringPieces_length hp
  rwa [stringOperands_count length.2]

/-- R79: the ABSORBs of HASH carry the bytes of the string, in order. -/
theorem flatMap_lanes_hashChunks (bs : List Byte) : ((hashChunks bs).flatMap fun c => lanes c.1 c.2) = bs := by
  have piece_lanes : ∀ piece ∈ stringPieces bs, lanes (stringOperands piece).1 (stringOperands piece).2 = piece :=
    fun _ hp => lanes_stringOperands (stringPieces_length hp).2
  rw [List.flatMap_def, hashChunks, List.map_map]
  exact (congrArg List.flatten ((List.map_congr_left piece_lanes).trans (List.map_id _))).trans (flatten_stringPieces bs)

end Sys2Proof.Machine

namespace Sys2Proof.Proofs

open Machine

/-- Settles O55: HASH is a stream of INIT, ABSORBs of 1 to 8 bytes and FINAL whose lanes, joined, are the string. -/
theorem hashPseudoCommand : Obligations.HashPseudoCommand := by
  intro s w msg rest hb hin
  rw [map_present_hashCommands] at hin
  obtain ⟨t, hrun, hashed⟩ := run_stream hb (hashChunks_legal msg) hin
  rw [flatMap_lanes_hashChunks] at hashed
  rw [hashCommands_length]
  exact ⟨t, hrun, hashed.inputs, hashed.phase, hashed.outw, hashed.busy, hashed.take_digestBytes, hashed.digestO_eq⟩

end Sys2Proof.Proofs

/-! PROOFS. The layout and the length of Pad(M), and FINAL's frames of the tail (spec/40_padder.md R100 to R106). -/

namespace Sys2Proof.Machine

/-! ## The length of the padding -/

/-- R100: the zeros of Pad(M) bring the message to 55 bytes past a block's start. -/
theorem add_padZeros_mod (n : Nat) : (n + padZeros n) % 64 = 55 := by
  rw [padZeros]
  omega

theorem pad_length (msg : List Byte) : (pad msg).length = msg.length + 1 + padZeros msg.length + 8 := by
  simp only [pad, List.length_append, List.length_singleton, List.length_replicate, lengthField_length]

theorem dvd_pad_length (msg : List Byte) : 64 ∣ (pad msg).length := by
  have zeros := add_padZeros_mod msg.length
  rw [pad_length]
  omega

/-- R53, R100: the length field holds the bit length modulo 2^64. -/
theorem lengthField_ofNat (n : Nat) : lengthField (BitVec.ofNat 64 n) = bytesLE (BitVec.ofNat 64 (8 * n)) := by
  rw [lengthField, BitVec.ofNat_mul]
  rfl

/-- A sequence of whole blocks is its full blocks, joined. -/
theorem flatten_fullBlocks {bs : List Byte} (h : 64 ∣ bs.length) : (fullBlocks bs).flatten = bs := by
  have none_left : tailOf bs = [] := List.length_eq_zero_iff.mp ((tailOf_length bs).trans (Nat.mod_eq_zero_of_dvd h))
  simpa only [none_left, List.append_nil] using flatten_fullBlocks_append_tailOf bs

/-! ## FINAL's frames -/

/-- R103, R131: compressing FINAL's frames of a tail, one or two, in order. -/
theorem foldBlocks_tailFrames (ch : Chain) (tail : List Byte) (len : Word) :
    foldBlocks ch (tailFrames tail len) =
      if tail.length ≤ 55 then
        compress ch (blockWords (tail ++ [marker] ++ List.replicate (55 - tail.length) 0 ++ lengthField len))
      else
        compress (compress ch (blockWords (tail ++ [marker] ++ List.replicate (63 - tail.length) 0)))
          (blockWords (List.replicate 56 0 ++ lengthField len)) := by
  rw [tailFrames]
  split <;> rfl

/-- R185: an accepted FINAL whose tail can be read completes. -/
theorem exec_final_of_tail {s : State} {tail : List Byte} (he : s.err = false) (hp : s.phase = .absorb)
    (hread : memRead s.buf 0 (bufOffset s) = some tail) : exec (.final 0) s = .next (finishMessage tail s) := by
  rw [exec_final, execFinal_open he hp, hread]
  rfl

end Sys2Proof.Machine

namespace Sys2Proof.Proofs

open Machine

/-- Settles O11: the tail has LEN mod 64 bytes, and FINAL folds the compression over its frames. -/
theorem finalFramesTail : Obligations.FinalFramesTail := by
  intro s tail he hp hread
  obtain ⟨cv, -, phase, -, len, outw, err, errcode, busy, inputs⟩ := finishMessage_spec tail s
  have count : tail.length = s.len.toNat % 64 := memRead_length hread
  refine ⟨finishMessage tail s, exec_final_of_tail he hp hread,
    state_ext ?_ rfl rfl rfl rfl len (finishMessage_blkcnt hread) phase outw err errcode busy inputs rfl⟩
  rw [cv, foldBlocks_tailFrames, count]
  rfl

/-- Settles O48: z is the number of zeros the padding has. -/
theorem padLayout : Obligations.PadLayout := by
  intro msg
  refine ⟨padZeros msg.length, ?_, add_padZeros_mod _, ?_, pad_length msg, dvd_pad_length msg⟩
  · exact Nat.le_of_lt_succ (Nat.mod_lt _ (by decide))
  · rw [← lengthField_ofNat]
    rfl

/-- Settles O49: the padding is whole blocks, the message's own and the frames of its tail. -/
theorem padBlockCount : Obligations.PadBlockCount := by
  intro msg
  refine ⟨?_, fullBlocks_pad_count msg, fun _ => fullBlocks_length, flatten_fullBlocks (dvd_pad_length msg)⟩
  rw [fullBlocks_pad_count]
  split <;> omega

/-- Settles O50: both sides are whole blocks that join to the padding. -/
theorem framesAreThePadding : Obligations.FramesAreThePadding := fun msg => (fullBlocks_pad msg).symm

end Sys2Proof.Proofs

/-! PROOFS. The compression (spec/41_compression.md R120 to R132): the key schedule as a bijection and in numbers, the multipliers,
the roles of a round, and the order of a compression. -/

namespace Sys2Proof.Machine

/-! ## The key schedule as steps that each rewrite one word (R125) -/

/-- X with X[i] replaced by w, for i in 0..7. -/
def Sched.setWord (x : Sched) (w : Word) : Nat → Sched
  | 0 => { x with x0 := w }
  | 1 => { x with x1 := w }
  | 2 => { x with x2 := w }
  | 3 => { x with x3 := w }
  | 4 => { x with x4 := w }
  | 5 => { x with x5 := w }
  | 6 => { x with x6 := w }
  | _ => { x with x7 := w }

@[simp] theorem Sched.word_setWord (x : Sched) (w : Word) : ∀ i, (x.setWord w i).word i = w
  | 0 | 1 | 2 | 3 | 4 | 5 | 6 | _ + 7 => rfl

@[simp] theorem Sched.setWord_word (x : Sched) : ∀ i, x.setWord (x.word i) i = x
  | 0 | 1 | 2 | 3 | 4 | 5 | 6 | _ + 7 => rfl

@[simp] theorem Sched.setWord_setWord (x : Sched) (v w : Word) : ∀ i, (x.setWord v i).setWord w i = x.setWord w i
  | 0 | 1 | 2 | 3 | 4 | 5 | 6 | _ + 7 => rfl

/-- A step that rewrites X[i] by a permutation of the 64-bit words, selected by the words of X. -/
structure KeyStep where
  i : Nat
  perm : Sched → Equiv.Perm Word

/-- The effect of a step on X. -/
def KeyStep.run (s : KeyStep) (x : Sched) : Sched := x.setWord (s.perm x (x.word s.i)) s.i

/-- A step whose permutation is not selected by the word it rewrites is undone by the inverse permutation of that word. -/
theorem KeyStep.bijective_run {s : KeyStep} (h : ∀ x w, s.perm (x.setWord w s.i) = s.perm x) : Function.Bijective s.run := by
  refine Function.bijective_iff_has_inverse.mpr ⟨KeyStep.run ⟨s.i, fun x => (s.perm x).symm⟩, fun x => ?_, fun x => ?_⟩
  · simp [KeyStep.run, h]
  · simp [KeyStep.run, h]

/-- XOR with v, as a permutation of the words. -/
def xorPerm (v : Word) : Equiv.Perm Word := Function.Involutive.toPerm (· ^^^ v) fun w => by simp

@[simp] theorem xorPerm_apply (v w : Word) : xorPerm v w = w ^^^ v := rfl

/-- The sixteen steps of R125, in order. -/
def keySteps : List KeyStep :=
  [⟨0, fun x => .subRight (x.x7 ^^^ 0xA5A5A5A5A5A5A5A5)⟩,
    ⟨1, fun x => xorPerm x.x0⟩,
    ⟨2, fun x => .addRight x.x1⟩,
    ⟨3, fun x => .subRight (x.x2 ^^^ (~~~x.x1 <<< 19))⟩,
    ⟨4, fun x => xorPerm x.x3⟩,
    ⟨5, fun x => .addRight x.x4⟩,
    ⟨6, fun x => .subRight (x.x5 ^^^ (~~~x.x4 >>> 23))⟩,
    ⟨7, fun x => xorPerm x.x6⟩,
    ⟨0, fun x => .addRight x.x7⟩,
    ⟨1, fun x => .subRight (x.x0 ^^^ (~~~x.x7 <<< 19))⟩,
    ⟨2, fun x => xorPerm x.x1⟩,
    ⟨3, fun x => .addRight x.x2⟩,
    ⟨4, fun x => .subRight (x.x3 ^^^ (~~~x.x2 >>> 23))⟩,
    ⟨5, fun x => xorPerm x.x4⟩,
    ⟨6, fun x => .addRight x.x5⟩,
    ⟨7, fun x => .subRight (x.x6 ^^^ 0x0123456789ABCDEF)⟩]

/-- R125: the key schedule runs its steps strictly in order. -/
theorem keySchedule_eq_foldl (x : Sched) : keySchedule x = keySteps.foldl (fun x s => s.run x) x := by
  simp only [keySteps, List.foldl_cons, List.foldl_nil, KeyStep.run, Sched.setWord, Sched.word, xorPerm_apply,
    Equiv.subRight_apply, Equiv.coe_addRight, keySchedule]

/-- R125: no step of the key schedule reads the word it rewrites to select how it rewrites it. -/
theorem keySteps_perm_setWord : ∀ s ∈ keySteps, ∀ x w, s.perm (x.setWord w s.i) = s.perm x := by
  simp [keySteps, Sched.setWord]

theorem bijective_foldl_run {steps : List KeyStep} (h : ∀ s ∈ steps, Function.Bijective s.run) :
    Function.Bijective fun x => steps.foldl (fun x s => s.run x) x := by
  induction steps with
  | nil => exact Function.bijective_id
  | cons s steps ih => exact (ih fun t ht => h t (List.mem_cons_of_mem s ht)).comp (h s List.mem_cons_self)

theorem keySchedule_bijective : Function.Bijective keySchedule := by
  rw [funext keySchedule_eq_foldl]
  exact bijective_foldl_run fun s hs => KeyStep.bijective_run (keySteps_perm_setWord s hs)

/-! ## Words as numbers (R56, R125, R129) -/

theorem bytek_eq_ofNat (w : Word) (k : Nat) : bytek w k = BitVec.ofNat 8 (w.toNat / 2 ^ (8 * k)) := by
  rw [← Nat.shiftRight_eq_div_pow]
  rfl

theorem ofNat_complement_mul_two_pow (w : Word) (k : Nat) :
    BitVec.ofNat 64 ((2 ^ 64 - 1 - w.toNat) * 2 ^ k) = ~~~w <<< k := by
  rw [← BitVec.toNat_not, ← Nat.shiftLeft_eq]
  rfl

theorem ofNat_complement_div_two_pow (w : Word) (k : Nat) :
    BitVec.ofNat 64 ((2 ^ 64 - 1 - w.toNat) / 2 ^ k) = ~~~w >>> k := by
  rw [← BitVec.toNat_not, ← Nat.shiftRight_eq_div_pow, ← BitVec.toNat_ushiftRight, BitVec.ofNat_toNat, BitVec.setWidth_eq]

theorem shiftLeft_eq_mul_two_pow (w : Word) (k : Nat) : w <<< k = w * 2 ^ k := by
  rw [BitVec.shiftLeft_eq_mul_twoPow]
  congr 1
  apply BitVec.eq_of_toNat_eq
  simp

/-! ## The roles of a round (R123, R124) -/

theorem passMul_eq_getD {p : Nat} (h : p < 3) : passMul p = ([5, 7, 9] : List Word).getD p 0 := by
  interval_cases p <;> rfl

/-- R123: the three roles are the three registers, turned by r mod 3. -/
theorem roles_cases (r : Nat) :
    (r % 3 = 0 ∧ (r + 1) % 3 = 1 ∧ (r + 2) % 3 = 2) ∨ (r % 3 = 1 ∧ (r + 1) % 3 = 2 ∧ (r + 2) % 3 = 0)
      ∨ (r % 3 = 2 ∧ (r + 1) % 3 = 0 ∧ (r + 2) % 3 = 1) := by omega

/-- R123: each result of round r stands in the register it was read from. -/
theorem roundAt_word (x : Sched) (ch : Chain) (r : Nat) :
    ((roundAt x ch r).word (r % 3), (roundAt x ch r).word ((r + 1) % 3), (roundAt x ch r).word ((r + 2) % 3)) =
      tigerRound (ch.word (r % 3)) (ch.word ((r + 1) % 3)) (ch.word ((r + 2) % 3)) (x.word (r % 8)) (passMul (r / 8)) := by
  rw [roundAt]
  obtain ⟨ha, hb, hc⟩ | ⟨ha, hb, hc⟩ | ⟨ha, hb, hc⟩ := roles_cases r
  all_goals rw [ha, hb, hc]; rfl

/-! ## The order of a compression (R120, R126, R130) -/

/-- R123: round micro-steps change A, B, C only, all with the X they find. -/
theorem foldl_microStep_rounds (rs : List Nat) (d : Datapath) :
    (rs.map .round).foldl microStep d = { d with cv := rs.foldl (roundAt d.x) d.cv } := by
  induction rs generalizing d with
  | nil => rfl
  | cons r rs ih => exact ih _

/-- R130: the rounds between two key schedules are a pass. -/
theorem foldl_microProgram (d : Datapath) (x : Sched) :
    (microProgram x).foldl microStep d = ⟨compress d.cv x, d.cv, keySchedule (keySchedule x)⟩ := by
  simp only [microProgram, List.foldl_append, foldl_microStep_rounds]
  rfl

section Passes

variable {xAt : Nat → Sched} {x y z : Sched}

/-- R123: rounds 8p to 8p+7, all with one X, are pass p. -/
theorem foldl_roundAt_pass (p : Nat) (h : ∀ r, 8 * p ≤ r → r < 8 * p + 8 → xAt r = x) (ch : Chain) :
    (List.range' (8 * p) 8).foldl (fun d r => roundAt (xAt r) d r) ch = passRounds p x ch := by
  apply List.foldl_ext
  intro d r hr
  obtain ⟨first, last⟩ := List.mem_range'_1.mp hr
  rw [h r first last]

/-- R126: the 24 rounds with one X for each pass are the three passes. -/
theorem foldl_roundAt_passes (h0 : ∀ r < 8, xAt r = x) (h1 : ∀ r, 8 ≤ r → r < 16 → xAt r = y)
    (h2 : ∀ r, 16 ≤ r → r < 24 → xAt r = z) (ch : Chain) :
    (List.range 24).foldl (fun d r => roundAt (xAt r) d r) ch = passRounds 2 z (passRounds 1 y (passRounds 0 x ch)) := by
  have passes : List.range 24 = List.range' (8 * 0) 8 ++ List.range' (8 * 1) 8 ++ List.range' (8 * 2) 8 := by decide
  rw [passes, List.foldl_append, List.foldl_append, foldl_roundAt_pass 0 fun r _ => h0 r, foldl_roundAt_pass 1 h1,
    foldl_roundAt_pass 2 h2]

end Passes

end Sys2Proof.Machine

namespace Sys2Proof.Proofs

open Machine

/-- Settles O43: each of the sixteen steps rewrites one word by a permutation that the other words select. -/
theorem keyScheduleIsBijective : Obligations.KeyScheduleIsBijective := keySchedule_bijective

/-- Settles O44: the round micro-steps between the others fold to the three passes. -/
theorem microStepsGiveCompress : Obligations.MicroStepsGiveCompress := fun d x =>
  ⟨rfl, fun _ => rfl, rfl, rfl, rfl, rfl, foldl_microProgram d x⟩

/-- Settles O40: a byte of c' is the slice of its number. -/
theorem roundFormula : Obligations.RoundFormula := by
  intro a b c x mul
  simp only [tigerRound, evenMix, oddMix, bytek_eq_ofNat]

/-- Settles O41: by r mod 3, which register has which role. -/
theorem roundRotation : Obligations.RoundRotation := by
  intro x ch r hr
  rw [← passMul_eq_getD (Nat.div_lt_of_lt_mul hr), ← roundAt_word]
  exact ⟨rfl, rfl, rfl⟩

/-- Settles O45: shifts are products by 2^2 and 2^3, and 5 = 2^2 + 1, 7 = 2^3 - 1, 9 = 2^3 + 1. -/
theorem multipliersAsShifts : Obligations.MultipliersAsShifts := by
  intro b
  simp only [shiftLeft_eq_mul_two_pow, passMul]
  exact ⟨by ring, by ring, by ring⟩

/-- Settles O59: the numbers are the shifts of the complement. -/
theorem keyScheduleFormula : Obligations.KeyScheduleFormula := by
  simp only [Obligations.KeyScheduleFormula, ofNat_complement_mul_two_pow, ofNat_complement_div_two_pow]
  exact ⟨fun _ _ _ _ _ _ _ _ => rfl, by decide⟩

/-- Settles O60: X is one value throughout each pass, so the 24 rounds are the three passes of a compression. -/
theorem feedforwardFormula : Obligations.FeedforwardFormula := by
  refine ⟨fun ch saved => ⟨rfl, ?_, BitVec.toNat_add ..⟩, fun ch x => ?_⟩
  · rw [feedforward, BitVec.toNat_sub, Nat.add_comm]
  · intro xAt
    have pass0 : ∀ r < 8, xAt r = x := fun r last => if_pos last
    have pass1 : ∀ r, 8 ≤ r → r < 16 → xAt r = keySchedule x := fun r first last =>
      (if_neg (Nat.not_lt.mpr first)).trans (if_pos last)
    have pass2 : ∀ r, 16 ≤ r → r < 24 → xAt r = keySchedule (keySchedule x) := fun r first _ =>
      (if_neg (by omega)).trans (if_neg (Nat.not_lt.mpr first))
    rw [foldl_roundAt_passes pass0 pass1 pass2, compress]

end Sys2Proof.Proofs

/-! PROOFS. The digest (spec/42_digest.md R160 to R167): its length at each width, and the hash of a stream of commands. -/

namespace Sys2Proof.Machine

/-! ## The length of a digest -/

/-- R162, R164: a digest has DLEN bytes. -/
theorem tigerHash_length (msg : List Byte) (w : Width) : (tigerHash msg w).length = digestLen w := by
  rw [tigerHash, truncate, List.length_take, serialize_length]
  exact Nat.min_eq_left (digestLen_le w)

/-- R164, R167: a digest is the first DLEN bytes of every digest that is not shorter. -/
theorem tigerHash_eq_take {v w : Width} (msg : List Byte) (h : digestLen v ≤ digestLen w) :
    tigerHash msg v = (tigerHash msg w).take (digestLen v) := by
  rw [tigerHash, tigerHash, truncate, truncate, List.take_take, Nat.min_eq_left h]

end Sys2Proof.Machine

namespace Sys2Proof.Proofs

open Machine

/-- Settles O54: a stream hashes the lanes of its ABSORBs, joined, and BLKCNT then counts the blocks of their padding. -/
theorem commandStreamComputesHash : Obligations.CommandStreamComputesHash := by
  intro s w chunks rest hb legal hin
  obtain ⟨t, hrun, hashed⟩ := run_stream hb legal hin
  obtain ⟨count, -⟩ := padBlockCount (chunks.flatMap fun c => lanes c.1 c.2)
  exact ⟨t, hrun, hashed.inputs, hashed.phase, hashed.outw, hashed.err, hashed.busy, hashed.len, count ▸ hashed.blkcnt,
    hashed.take_digestBytes, hashed.digestO_eq⟩

/-- Settles O56: 16 and 20 bytes are not more than 24. -/
theorem truncationIsPrefix : Obligations.TruncationIsPrefix := fun msg =>
  ⟨tigerHash_eq_take (w := .w192) msg (by decide), tigerHash_eq_take (w := .w192) msg (by decide),
    tigerHash_length msg .w192, tigerHash_length msg .w160, tigerHash_length msg .w128⟩

end Sys2Proof.Proofs

/-! PROOFS. The bytes an ABSORB stores in BUF (spec/43_commands.md R184): inside a block, and across its end. -/

namespace Sys2Proof.Machine

/-! ## Bytes stored one after another -/

/-- ABSORB's stores of several bytes, with no block compressed between them (R184). -/
def storeBytes (bs : List Byte) (s : State) : State := bs.foldl (fun t b => storeByte b t) s

theorem storeBytes_cons (b : Byte) (bs : List Byte) (s : State) :
    storeBytes (b :: bs) s = storeBytes bs (storeByte b s) := rfl

/-- R184: storing bytes adds their number to LEN and writes BUF, and nothing else. -/
theorem storeBytes_frame (bs : List Byte) (s : State) :
    storeBytes bs s = { s with len := s.len + BitVec.ofNat 64 bs.length, buf := (storeBytes bs s).buf } := by
  induction bs generalizing s with
  | nil => simp [storeBytes]
  | cons b bs ih =>
    have count : s.len + 1 + BitVec.ofNat 64 bs.length = s.len + BitVec.ofNat 64 (b :: bs).length := by
      rw [List.length_cons, BitVec.add_assoc, Nat.add_comm, BitVec.ofNat_add]
      rfl
    rw [storeBytes_cons, ← count]
    exact ih (storeByte b s)

theorem storeBytes_len (bs : List Byte) (s : State) : (storeBytes bs s).len = s.len + BitVec.ofNat 64 bs.length := by
  rw [storeBytes_frame]

/-- R50: the offset goes up by the number of bytes stored, modulo 64. -/
theorem bufOffset_storeBytes (bs : List Byte) (s : State) :
    bufOffset (storeBytes bs s) = (bufOffset s + bs.length) % 64 := by
  rw [bufOffset, storeBytes_len, BitVec.toNat_add, BitVec.toNat_ofNat, bufOffset]
  omega

/-- R184: while the block has room for them, byte j goes to offset LEN mod 64 + j, and the other bytes of BUF stay. -/
theorem readByte_storeBytes {bs : List Byte} {s : State} (room : bufOffset s + bs.length ≤ 64) (p : Nat) :
    readByte (storeBytes bs s).buf p =
      if bufOffset s ≤ p ∧ p < bufOffset s + bs.length then bs[p - bufOffset s]? else readByte s.buf p := by
  induction bs generalizing s with
  | nil => exact (if_neg (by simp)).symm
  | cons b bs ih =>
    have offset := bufOffset_storeByte b s
    rw [List.length_cons] at room ⊢
    rw [storeBytes_cons, ih (by omega), storeByte_buf, readByte_memWrite]
    by_cases first : p = bufOffset s
    · rw [if_neg (by omega), if_pos first, if_pos (by omega), first, Nat.sub_self, List.getElem?_cons_zero]
    · by_cases later : bufOffset s < p ∧ p < bufOffset s + (bs.length + 1)
      · have index : p - bufOffset s = p - bufOffset (storeByte b s) + 1 := by omega
        rw [if_pos (by omega), if_pos (by omega), index, List.getElem?_cons_succ]
      · rw [if_neg (by omega), if_neg first, if_neg (by omega)]

/-! ## Absorbing as storing and compressing -/

/-- R184: a byte that does not end the block is only stored. -/
theorem absorbByte_inside {s : State} (b : Byte) (h : bufOffset s + 1 < 64) : absorbByte b s = some (storeByte b s) := by
  have offset := bufOffset_storeByte b s
  rw [absorbByte, if_neg (by omega)]

/-- R184: the byte that ends the block is stored, and the block is compressed. -/
theorem absorbByte_ends_block {s : State} {head : List Byte} (b : Byte) (h : bufOffset s + 1 = 64)
    (hread : memRead s.buf 0 (bufOffset s) = some head) :
    absorbByte b s = some (compressBlock (head ++ [b]) (storeByte b s)) := by
  have offset := bufOffset_storeByte b s
  have block : memRead (storeByte b s).buf 0 64 = some (head ++ [b]) := h ▸ memRead_memWrite_end b hread
  rw [absorbByte, if_pos (by omega), block]
  rfl

/-- R184: bytes that do not reach the end of the block are only stored. -/
theorem absorbBytes_inside {bs : List Byte} {s : State} (h : bufOffset s + bs.length < 64) :
    absorbBytes bs s = some (storeBytes bs s) := by
  induction bs generalizing s with
  | nil => rfl
  | cons b bs ih =>
    have offset := bufOffset_storeByte b s
    rw [List.length_cons] at h
    rw [absorbBytes, absorbByte_inside b (by omega), Option.bind_some, ih (by omega), storeBytes_cons]

/-- R184: bytes that just fill the block are stored, and then the block is compressed. -/
theorem absorbBytes_fill {fill head : List Byte} {s : State} (h : bufOffset s + fill.length = 64)
    (hread : memRead s.buf 0 (bufOffset s) = some head) :
    absorbBytes fill s = some (compressBlock (head ++ fill) (storeBytes fill s)) := by
  induction fill generalizing s head with
  | nil => exact absurd h (bufOffset_lt s).ne
  | cons b bs ih =>
    rw [List.length_cons] at h
    by_cases last : bs = []
    · subst last
      rw [absorbBytes, absorbByte_ends_block b h hread]
      rfl
    · have more := List.length_pos_iff.mpr last
      have offset : bufOffset (storeByte b s) = bufOffset s + 1 := by
        rw [bufOffset_storeByte]
        omega
      have read : memRead (storeByte b s).buf 0 (bufOffset (storeByte b s)) = some (head ++ [b]) :=
        offset ▸ memRead_memWrite_end b hread
      rw [absorbBytes, absorbByte_inside b (by omega), Option.bind_some, ih (by omega) read, storeBytes_cons,
        List.append_assoc, List.singleton_append]

theorem absorbBytes_append (bs cs : List Byte) (s : State) :
    absorbBytes (bs ++ cs) s = (absorbBytes bs s).bind (absorbBytes cs) := by
  induction bs generalizing s with
  | nil => rfl
  | cons b bs ih =>
    rw [List.cons_append, absorbBytes, absorbBytes, Option.bind_assoc]
    exact congrArg _ (funext ih)

/-- The state after bytes that fill up the block behind `head` and then go on in the next one (R184). -/
def storeAcross (head fill rest : List Byte) (s : State) : State :=
  storeBytes rest (compressBlock (head ++ fill) (storeBytes fill s))

section Across

variable {head fill rest : List Byte} {s : State}

theorem bufOffset_compressBlock_fill (hfill : bufOffset s + fill.length = 64) (block : List Byte) :
    bufOffset (compressBlock block (storeBytes fill s)) = 0 := by
  rw [bufOffset_compressBlock, bufOffset_storeBytes, hfill]

/-- R184: an ABSORB's bytes across the end of a block: compressed once, in the middle. -/
theorem absorbBytes_across (hfill : bufOffset s + fill.length = 64) (hrest : rest.length < 64)
    (hread : memRead s.buf 0 (bufOffset s) = some head) :
    absorbBytes (fill ++ rest) s = some (storeAcross head fill rest s) := by
  rw [absorbBytes_append, absorbBytes_fill hfill hread]
  refine absorbBytes_inside ?_
  rwa [bufOffset_compressBlock_fill hfill, Nat.zero_add]

/-- R184, R131: such an ABSORB writes LEN and BUF, and what a compression writes. -/
theorem storeAcross_frame (head fill rest : List Byte) (s : State) :
    storeAcross head fill rest s =
      { s with
        cv := compress s.cv (blockWords (head ++ fill))
        len := s.len + BitVec.ofNat 64 (fill ++ rest).length
        blkcnt := s.blkcnt + 1
        buf := (storeAcross head fill rest s).buf
        saved := (storeAcross head fill rest s).saved
        x := (storeAcross head fill rest s).x
        rc := (storeAcross head fill rest s).rc
        freeCount := (storeAcross head fill rest s).freeCount } := by
  have stored := storeBytes_frame fill s
  have across := storeBytes_frame rest (compressBlock (head ++ fill) (storeBytes fill s))
  have count : s.len + BitVec.ofNat 64 (fill ++ rest).length
      = s.len + BitVec.ofNat 64 fill.length + BitVec.ofNat 64 rest.length := by
    rw [List.length_append, BitVec.ofNat_add, BitVec.add_assoc]
  rw [count]
  unfold storeAcross
  rw [across, stored]
  rfl

/-- R184: the bytes after the block stand at offsets 0, 1, ..., those that filled it where it had room for them. -/
theorem readByte_storeAcross (hfill : bufOffset s + fill.length = 64) (hrest : rest.length < 64) (p : Nat) :
    readByte (storeAcross head fill rest s).buf p =
      if p < rest.length then rest[p]?
      else if bufOffset s ≤ p ∧ p < 64 then fill[p - bufOffset s]? else readByte s.buf p := by
  have offset := bufOffset_compressBlock_fill hfill (head ++ fill)
  rw [storeAcross, readByte_storeBytes (by omega), offset, compressBlock_buf, readByte_storeBytes (by omega), hfill]
  simp

end Across

/-! ## The lanes, cut where the block ends -/

/-- R55: the first k lanes of DATA and then lanes k to n - 1. -/
theorem lanes_eq_append {n : BitVec 4} {k : Nat} (data : Word) (h : k ≤ n.toNat) :
    lanes n data = (List.range k).map (bytek data) ++ (lanes n data).drop k := by
  have first : (lanes n data).take k = (List.range k).map (bytek data) := by
    rw [lanes, ← List.map_take, List.take_range, Nat.min_eq_left h]
  rw [← first, List.take_append_drop]

theorem exec_absorb_of_absorbBytes {n : BitVec 4} {data : Word} {s t : State} (accepted : AbsorbAccepted n s)
    (h : absorbBytes (lanes n data) s = some t) : exec (.absorb n data) s = .next t := by
  obtain ⟨he, h1, h8, hp⟩ := accepted
  show execAbsorb n data s = _
  rw [execAbsorb_open he (decide_eq_true ⟨h1, h8⟩) hp, h]
  rfl

end Sys2Proof.Machine

namespace Sys2Proof.Proofs

open Machine

/-- Settles O9: bytes that do not reach the end of the block are stored one after another. -/
theorem absorbInsideBlock : Obligations.AbsorbInsideBlock := by
  intro n data s he hp h1 h8 hin
  have count := lanes_length n data
  refine ⟨storeBytes (lanes n data) s,
    exec_absorb_of_absorbBytes ⟨he, h1, h8, hp⟩ (absorbBytes_inside (by omega)), ?_, fun p => ?_⟩
  · rw [← count]
    exact storeBytes_frame _ s
  · rw [readByte_storeBytes (by omega), count]
    split
    · exact lanes_getElem? (by omega)
    · rfl

/-- Settles O10: the lanes are cut where the block ends: the first fill it up, and it is compressed before the others. -/
theorem absorbAcrossBoundary : Obligations.AbsorbAcrossBoundary := by
  intro n data s head he hp h1 h8 hacross hread
  have hlt := bufOffset_lt s
  have cut := lanes_eq_append (n := n) (k := 64 - bufOffset s) data (by omega)
  have hfill : bufOffset s + ((List.range (64 - bufOffset s)).map (bytek data)).length = 64 := by
    rw [List.length_map, List.length_range]
    omega
  have hrest : ((lanes n data).drop (64 - bufOffset s)).length = n.toNat - (64 - bufOffset s) := by
    rw [List.length_drop, lanes_length]
  refine ⟨storeAcross head _ _ s,
    exec_absorb_of_absorbBytes ⟨he, h1, h8, hp⟩ (cut ▸ absorbBytes_across hfill (by omega) hread), ?_, fun p => ?_⟩
  · have frame := storeAcross_frame head ((List.range (64 - bufOffset s)).map (bytek data))
      ((lanes n data).drop (64 - bufOffset s)) s
    rwa [← cut, lanes_length] at frame
  · rw [readByte_storeAcross hfill (by omega), hrest]
    by_cases next : p + 64 < bufOffset s + n.toNat
    · rw [if_pos (by omega), if_pos next, List.getElem?_drop, Nat.add_comm, lanes_getElem? (by omega)]
    · rw [if_neg (by omega), if_neg next]
      split
      · rw [List.getElem?_map, List.getElem?_range (by omega), Option.map_some]
      · rfl

end Sys2Proof.Proofs

/-! PROOFS. The output ports (spec/43_commands.md R180, R187 to R189) and the step (R180, R259). -/

namespace Sys2Proof.Machine

/-! ## The bytes of the digest on the port -/

/-- Byte i of the packed number is byte i of the list, while it fits. -/
theorem extractLsb'_packBytes {n i : Nat} (bs : List Byte) (h : 8 * i + 8 ≤ n) :
    (packBytes n bs).extractLsb' (8 * i) 8 = bs.getD i 0 := by
  apply BitVec.eq_of_getLsbD_eq
  intro k hk
  have byte : (8 * i + k) / 8 = i := by omega
  have bit : (8 * i + k) % 8 = k := by omega
  rw [BitVec.getLsbD_extractLsb', packBytes_getLsbD, byte, bit]
  simp [hk, show 8 * i + k < n by omega]

/-- R163: byte i of Ser(A, B, C) is byte i mod 8 of the register i / 8. -/
theorem serialize_getElem? (ch : Chain) {i : Nat} (h : i < 24) :
    (serialize ch)[i]? = some (bytek (ch.word (i / 8)) (i % 8)) := by
  interval_cases i <;> rfl

theorem truncate_serialize_length (ch : Chain) (w : Width) : (truncate (serialize ch) w).length = digestLen w := by
  rw [truncate, List.length_take, serialize_length]
  exact Nat.min_eq_left (digestLen_le w)

/-- R187: byte i of digest_o: the digest below DLEN, then 0x00. -/
theorem digestBytes_getD (s : State) {i : Nat} (h : i < 24) :
    (digestBytes s).getD i 0 = if i < digestLen s.outw then bytek (s.cv.word (i / 8)) (i % 8) else 0 := by
  have length := truncate_serialize_length s.cv s.outw
  rw [List.getD_eq_getElem?_getD, digestBytes]
  split
  · rw [List.getElem?_append_left (by omega), truncate, List.getElem?_take_of_lt ‹_›, serialize_getElem? _ h,
      Option.getD_some]
  · rw [List.getElem?_append_right (by omega), List.getElem?_replicate_of_lt (by omega), Option.getD_some]

/-- Bit k of (C, B, A) is bit k mod 64 of the register k / 64 (R188). -/
theorem chain_append_getLsbD (ch : Chain) {k : Nat} (h : k < 192) :
    (ch.c ++ ch.b ++ ch.a : BitVec 192).getLsbD k = (ch.word (k / 64)).getLsbD (k % 64) := by
  have bits : (ch.c ++ ch.b ++ ch.a : BitVec 192).getLsbD k =
      if k < 64 then ch.a.getLsbD k else if k - 64 < 64 then ch.b.getLsbD (k - 64) else ch.c.getLsbD (k - 64 - 64) := by
    rw [BitVec.getLsbD_append, BitVec.getLsbD_append]
  rw [bits]
  split
  · rw [show k / 64 = 0 by omega, show k % 64 = k by omega]
    rfl
  · split
    · rw [show k / 64 = 1 by omega, show k % 64 = k - 64 by omega]
      rfl
    · rw [show k / 64 = 2 by omega, show k % 64 = k - 64 - 64 by omega]
      rfl

/-- R187: the 24 bytes of the 192-bit digest are (C, B, A). -/
theorem packBytes_digestBytes {s : State} (h : s.outw = .w192) :
    packBytes 192 (digestBytes s) = s.cv.c ++ s.cv.b ++ s.cv.a := by
  apply BitVec.eq_of_getLsbD_eq
  intro k hk
  have whole : k / 8 < digestLen s.outw := by
    rw [h, digestLen]
    omega
  have register : k / 8 / 8 = k / 64 := by omega
  have bit : 8 * (k / 8 % 8) + k % 8 = k % 64 := by omega
  rw [packBytes_getLsbD, digestBytes_getD s (by omega), if_pos whole, bytek_getLsbD, register, bit,
    chain_append_getLsbD s.cv hk]
  simp [hk, Nat.mod_lt]

/-! ## When a port shows a value -/

theorem cvO_ready {s : State} (h : cmdReady s = true) (hp : s.phase ≠ .idle) :
    cvO s = some (s.cv.c ++ s.cv.b ++ s.cv.a) := by
  rw [cvO, h, decide_eq_true hp]
  rfl

theorem cvO_not_ready {s : State} (h : cmdReady s = false) : cvO s = none := by simp [cvO, h]

theorem cvO_idle {s : State} (h : s.phase = .idle) : cvO s = none := by simp [cvO, h]

theorem digestO_not_ready {s : State} (h : cmdReady s = false) : digestO s = none := by simp [digestO, h]

theorem digestO_not_done {s : State} (h : s.phase ≠ .done) : digestO s = none := by simp [digestO, h]

theorem lenO_ready {s : State} (h : cmdReady s = true) : lenO s = some s.len := if_pos h

theorem lenO_not_ready {s : State} (h : cmdReady s = false) : lenO s = none := by simp [lenO, h]

theorem blkcntO_ready {s : State} (h : cmdReady s = true) : blkcntO s = some s.blkcnt := if_pos h

theorem blkcntO_not_ready {s : State} (h : cmdReady s = false) : blkcntO s = none := by simp [blkcntO, h]

/-! ## The step on what is presented -/

/-- R180: at a boundary a presented word executes, decoded, with BUSY set and the edge passed. -/
theorem step_word {s : State} {w : Command} {rest : List PortIn} (hb : s.busy = false)
    (hin : s.inputs = ⟨false, true, w⟩ :: rest) :
    step s = completeCommand (exec (decode w) { s with busy := true, inputs := rest }) := by
  have hpins : pins s = ⟨false, true, w⟩ := by rw [pins, hin, List.headD_cons]
  have accepted : acceptCommand (passEdge s) = { s with busy := true, inputs := rest } := by
    rw [acceptCommand, passEdge, hin, List.tail_cons]
  rcases step_cases s with ⟨hr, -⟩ | ⟨-, hbusy, -⟩ | ⟨-, -, hv, -⟩ | ⟨-, -, -, e⟩
  · simp [hpins] at hr
  · simp [hb] at hbusy
  · simp [hpins] at hv
  · rw [e, hpins, accepted]

/-- R180: an edge at which nothing is presented passes. -/
theorem step_idle {s : State} (hb : s.busy = false) (hr : (pins s).rst = false) (hv : (pins s).cmdValid = false) :
    step s = .next (passEdge s) := by
  rcases step_cases s with ⟨hrst, -⟩ | ⟨-, hbusy, -⟩ | ⟨-, -, -, e⟩ | ⟨-, -, hvalid, -⟩
  · simp [hr] at hrst
  · simp [hb] at hbusy
  · exact e
  · simp [hv] at hvalid

end Sys2Proof.Machine

namespace Sys2Proof.Proofs

open Machine

/-- Settles O29: byte i of the packed digest is byte i of the list, which is the digest and then zeros. -/
theorem digestPort : Obligations.DigestPort := by
  refine fun s => ⟨fun hr hb hp => ⟨_, digestO_done hb hr hp, fun i hi => ?_, packBytes_digestBytes⟩, ?_⟩
  · rw [extractLsb'_packBytes _ (by omega), digestBytes_getD s hi]
    cases s.outw <;> rfl
  · rintro (h | h | h)
    · exact digestO_not_ready (cmdReady_eq_false (.inl h))
    · exact digestO_not_done h
    · exact digestO_not_ready (cmdReady_eq_false (.inr h))

/-- Settles O28: the three registers are slices of the appended word. -/
theorem chainPort : Obligations.ChainPort := by
  refine fun s => ⟨fun hr hb hp => ⟨_, cvO_ready (cmdReady_eq_true hb hr) ?_, ?_⟩, ?_⟩
  · rcases hp with hp | hp <;> simp [hp]
  · refine ⟨?_, ?_, ?_⟩ <;>
    · simp (disch := decide) only [BitVec.extractLsb'_append_eq_of_le, BitVec.extractLsb'_append_eq_of_add_le]
      exact BitVec.extractLsb'_eq_self
  · rintro (h | h | h)
    · exact cvO_not_ready (cmdReady_eq_false (.inl h))
    · exact cvO_idle h
    · exact cvO_not_ready (cmdReady_eq_false (.inr h))

/-- Settles O30: each of the ports follows cmd_ready. -/
theorem counterPortsAndReady : Obligations.CounterPortsAndReady := by
  refine fun s => ⟨fun hb hr => ?_, fun h => ?_⟩
  · have ready := cmdReady_eq_true hb hr
    exact ⟨ready, lenO_ready ready, blkcntO_ready ready⟩
  · have waits := cmdReady_eq_false h
    exact ⟨waits, lenO_not_ready waits, blkcntO_not_ready waits⟩

/-- Settles O32: completion clears BUSY in a next state and passes on a fault or a refusal. -/
theorem stepRunsPresentedCommand : Obligations.StepRunsPresentedCommand := by
  intro s w rest hb hin
  rw [step_word hb hin]
  cases exec (decode w) { s with busy := true, inputs := rest } <;> rfl

/-- Settles O33: the step passes the edge, which drops the first entry of the pins. -/
theorem nothingPresentedNothingChanges : Obligations.NothingPresentedNothingChanges := fun _ => step_idle

/-- Settles O35: a word below 2^72 is on the pins as it is, and BUSY is 0. -/
theorem presentedWordRunsNext : Obligations.PresentedWordRunsNext := by
  intro s w hw
  have presented : (s.withFetchWord 72 w).inputs = ⟨false, true, BitVec.ofNat 72 w⟩ :: s.inputs := by
    rw [State.withFetchWord, Nat.mod_eq_of_lt hw]
  refine ⟨step_word rfl presented, ?_⟩
  rw [decodeTableWord, if_pos (Nat.le_refl 72), Nat.mod_eq_of_lt hw]

end Sys2Proof.Proofs

/-! PROOFS. The commands and the checks on them (spec/43_commands.md R181 to R186). -/

namespace Sys2Proof.Machine

/-! ## INIT by its width -/

/-- R183: an INIT with a legal width starts a message. -/
theorem exec_init_legal {arg : BitVec 4} (h : arg.toNat ≤ 2) (s : State) :
    ∃ w, exec (.init arg) s = .next (startMessage w s) := by
  rcases execInit_cases arg s with ⟨w, -, e⟩ | ⟨h3, -⟩
  · exact ⟨w, e⟩
  · omega

/-- R183: an INIT with an illegal width is rejected. -/
theorem exec_init_illegal {arg : BitVec 4} (h : 3 ≤ arg.toNat) (s : State) :
    exec (.init arg) s = .next (rejectWidth s) := by
  rcases execInit_cases arg s with ⟨w, hw, -⟩ | ⟨-, e⟩
  · rw [widthOf_eq_none.mpr h] at hw
    nomatch hw
  · exact e

/-! ## The checks of R181 on ABSORB and FINAL -/

/-- R181: the checks that ABSORB and FINAL share, in their order; `r` is what the command answers past them. -/
theorem inOpenMessage_checks {argLegal : Bool} {s : State} {act r : Result}
    (h : s.err = false → argLegal = true → s.phase = .absorb → act = r) :
    inOpenMessage argLegal s act =
      if s.err = true then .next s
      else if argLegal = false then .next (raiseError .badArg s)
      else if s.phase ≠ .absorb then .next (raiseError .badSeq s)
      else r := by
  rcases inOpenMessage_cases argLegal s act with ⟨he, e⟩ | ⟨he, ha, e⟩ | ⟨he, ha, hp, e⟩ | ⟨he, ha, hp, e⟩
  · rw [if_pos he, e]
  · rw [if_neg (by simp [he]), if_pos ha, e]
  · rw [if_neg (by simp [he]), if_neg (by simp [ha]), if_pos hp, e]
  · rw [if_neg (by simp [he]), if_neg (by simp [ha]), if_neg (not_not.mpr hp), e, h he ha hp]

theorem legalCountArg_eq_false {n : BitVec 4} : legalCountArg n = false ↔ ¬(1 ≤ n.toNat ∧ n.toNat ≤ 8) :=
  decide_eq_false_iff_not

theorem legalFinalArg_eq_false {arg : BitVec 4} : legalFinalArg arg = false ↔ arg ≠ 0 := decide_eq_false_iff_not

/-- R181: an ABSORB past the checks is an ABSORB in an open message. -/
theorem exec_absorb_checks (n : BitVec 4) (data : Word) (s : State) :
    exec (.absorb n data) s =
      if s.err = true then .next s
      else if ¬(1 ≤ n.toNat ∧ n.toNat ≤ 8) then .next (raiseError .badArg s)
      else if s.phase ≠ .absorb then .next (raiseError .badSeq s)
      else exec (.absorb n data) s := by
  simp only [← legalCountArg_eq_false]
  exact inOpenMessage_checks fun he ha hp => (execAbsorb_open he ha hp).symm

/-- R181: a FINAL past the checks is a FINAL with ARG = 0 in an open message. -/
theorem exec_final_checks (arg : BitVec 4) (s : State) :
    exec (.final arg) s =
      if s.err = true then .next s
      else if arg ≠ 0 then .next (raiseError .badArg s)
      else if s.phase ≠ .absorb then .next (raiseError .badSeq s)
      else exec (.final 0) s := by
  simp only [← legalFinalArg_eq_false]
  exact inOpenMessage_checks fun he _ hp => (execFinal_open he hp).symm

end Sys2Proof.Machine

namespace Sys2Proof

open Machine

/-! ## Words by their OP -/

/-- R70: a word below 2^68 has OP = 0. -/
theorem opOf_eq_zero {w : Command} (h : w.toNat < 2 ^ 68) : opOf w = 0 := by
  apply BitVec.eq_of_toNat_eq
  rw [opOf, BitVec.extractLsb'_toNat, Nat.shiftRight_eq_div_pow, Nat.div_eq_of_lt h]
  rfl

theorem isReserved_decode {w : Command} : (decode w).isReserved = true ↔ 4 ≤ (opOf w).toNat := by
  rw [Instr.isReserved, opcode_decode, decide_eq_true_iff]

/-! ## FINAL on an open message -/

/-- R185: FINAL hashes the open message at the width of OUTW. -/
theorem OpenMessage.hashed_finishMessage {msg : List Byte} {s : State} (h : OpenMessage msg s) (he : s.err = false)
    (hb : s.busy = false) : Hashed s.outw msg s.inputs (finishMessage (tailOf msg) s) := by
  obtain ⟨-, -, phase, -, len, outw, err, -, busy, inputs⟩ := finishMessage_spec (tailOf msg) s
  exact ⟨phase, h.finishMessage_cv, len.trans h.len, h.finishMessage_blkcnt, outw, err.trans he, busy.trans hb, inputs⟩

end Sys2Proof

namespace Sys2Proof.Proofs

open Machine

/-- Settles O15: by OP, the checks that apply; ABSORB and FINAL share theirs. -/
theorem dispatchOrder : Obligations.DispatchOrder := by
  intro w s
  rcases op_cases (opOf w) with h | h | h | h | h
  · rw [decode_nop h, if_pos h]
    rfl
  · rw [decode_init h, if_neg (by simp [h]), if_pos h]
  · rw [decode_absorb h]
    simpa [h, raiseError] using exec_absorb_checks (argOf w) (dataOf w) s
  · rw [decode_final h]
    simpa [h, raiseError] using exec_final_checks (argOf w) s
  · rw [if_neg (by bv_omega), if_neg (by bv_omega), exec_reserved (decode_reserved h), reservedOpcode_eq]
    by_cases he : s.err = true
    · rw [if_pos he, if_pos he]
    · rw [if_neg he, if_neg he, if_pos h]
      rfl

/-- Settles O7: a word below 2^68 has OP = 0, which is NOP. -/
theorem nopChangesNothing : Obligations.NopChangesNothing := by
  refine fun s => ⟨rfl, fun w hw => ?_⟩
  rw [decode_nop (opOf_eq_zero hw)]
  exact ⟨rfl, State.reset, rfl, by decide⟩

/-- Settles O13: every reserved opcode has the one meaning of R186, and OP tells which words are reserved. -/
theorem reservedRaisesBadOp : Obligations.ReservedRaisesBadOp := by
  refine ⟨fun w => isReserved_decode, fun i hi => ?_⟩
  have meaning (s : State) : exec i s = .next (if s.err then s else raiseError .badOp s) := by
    rw [exec_reserved hi, reservedOpcode_eq]
  exact ⟨meaning, raiseError .badOp State.reset, meaning State.reset, by decide⟩

/-- Settles O8: a legal width starts a message and an illegal one is rejected, and neither ends in PHASE = DONE. -/
theorem initEffect : Obligations.InitEffect := by
  refine ⟨fun arg w s hw => ?_, fun arg s => (exec_init_illegal · s), fun arg s t h => ?_, fun i s t he h hclear => ?_,
    ⟨_, exec_init_widthArg .w160 State.reset, by decide⟩, by decide⟩
  · have selects : arg = widthArg w := by
      simp only [List.mem_cons, Prod.mk.injEq, List.not_mem_nil, or_false] at hw
      rcases hw with ⟨rfl, rfl⟩ | ⟨rfl, rfl⟩ | ⟨rfl, rfl⟩ <;> rfl
    rw [selects]
    exact ⟨_, exec_init_widthArg w s, rfl, fun p => readByte_zeroBuf⟩
  · rcases exec_init_next h with ⟨ha, w, -, rfl⟩ | ⟨-, rfl⟩
    · exact ⟨digestO_not_done (by simp), fun h3 => by omega⟩
    · exact ⟨digestO_not_done (by simp), fun _ => cvO_idle rfl⟩
  · obtain ⟨arg, hi, -⟩ := onlyInitLeavesAnError i s t he h (.inl hclear)
    exact ⟨arg, hi⟩

/-- Settles O26: recording an error, starting a message, absorbing and compressing all leave the pins and BUSY. -/
theorem commandsLeavePinsAlone : Obligations.CommandsLeavePinsAlone := by
  intro i s t h
  rcases exec_next_cases h with ht | ⟨arg, w, -, -, -, rfl⟩ | ⟨arg, -, -, rfl⟩ | ⟨n, data, -, -, ht⟩ |
    ⟨-, -, tail, -, rfl⟩
  · rw [ht.frame]
    exact ⟨rfl, rfl⟩
  · exact ⟨rfl, rfl⟩
  · exact ⟨rfl, rfl⟩
  · exact ⟨(absorbBytes_keeps ht).inputs, (absorbBytes_keeps ht).busy⟩
  · have keeps := compressFrames_keeps (tailFrames tail s.len) s
    exact ⟨keeps.inputs, keeps.busy⟩

/-- Settles O51: a legal INIT starts a message, in which nothing is absorbed. -/
theorem initOpensEmptyMessage : Obligations.InitOpensEmptyMessage := by
  intro arg s ha
  obtain ⟨w, e⟩ := exec_init_legal ha s
  exact ⟨_, e, openMessage_startMessage w s, rfl⟩

/-- Settles O52: the lanes an accepted ABSORB takes in extend the message, and absorbing keeps ERR and OUTW. -/
theorem absorbExtendsMessage : Obligations.AbsorbExtendsMessage := by
  intro msg n data s hm he h1 h8
  obtain ⟨t, ht, message, keeps⟩ := hm.exec_absorb (data := data) ⟨he, h1, h8, hm.isOpen⟩
  exact ⟨t, ht, message, keeps.err.trans he, keeps.outw⟩

/-- Settles O53: FINAL hashes the message, and BLKCNT then counts the blocks of its padding. -/
theorem finalProducesHash : Obligations.FinalProducesHash := by
  intro msg s hm he hb hr
  have hashed := hm.hashed_finishMessage he hb
  have quiet : (pins (finishMessage (tailOf msg) s)).rst = false := by rwa [pins, hashed.inputs]
  obtain ⟨count, -⟩ := padBlockCount msg
  exact ⟨_, hm.exec_final he, hashed.phase, hashed.cv, count ▸ hashed.blkcnt, hashed.len.trans hm.len.symm,
    hashed.digestO_eq quiet⟩

end Sys2Proof.Proofs

/-! PROOFS. The S-box tables (spec/44_sbox_tables.md R210, R211): each byte position as a permutation. -/

namespace Sys2Proof.Machine

/-! ## Sets of bytes as bit masks -/

/-- The bytes that occur in a list, as a number whose bit b is 1 when b occurs. -/
def byteSet (bs : List Byte) : Nat := bs.foldr (fun b m => m ||| 1 <<< b.toNat) 0

theorem byteSet_cons (b : Byte) (bs : List Byte) : byteSet (b :: bs) = byteSet bs ||| 1 <<< b.toNat := rfl

theorem testBit_byteSet (bs : List Byte) (b : Byte) : (byteSet bs).testBit b.toNat ↔ b ∈ bs := by
  induction bs with
  | nil => simp [byteSet]
  | cons c cs ih =>
    have head : (1 <<< c.toNat).testBit b.toNat ↔ b = c := by
      simp [Nat.shiftLeft_eq, Nat.testBit_two_pow, BitVec.toNat_inj, eq_comm]
    rw [byteSet_cons, Nat.testBit_or, Bool.or_eq_true, ih, head, List.mem_cons, or_comm]

/-- A list in whose mask all 256 bits are set holds every byte. -/
theorem mem_of_byteSet_full {bs : List Byte} (h : byteSet bs = 2 ^ 256 - 1) (b : Byte) : b ∈ bs := by
  rw [← testBit_byteSet, h, Nat.testBit_two_pow_sub_one]
  exact decide_eq_true b.isLt

/-! ## Functions from bytes to bytes -/

/-- The values of a function on bytes, from f 0 to f 255. -/
def byteValues (f : Byte → Byte) : List Byte := (List.range 256).map fun i => f (BitVec.ofNat 8 i)

/-- Every byte being a value, the function is onto, and so one to one as well. -/
theorem bijective_of_byteSet_full {f : Byte → Byte} (h : byteSet (byteValues f) = 2 ^ 256 - 1) :
    Function.Bijective f := by
  have surjective : Function.Surjective f := fun b => by
    obtain ⟨i, -, hi⟩ := List.mem_map.mp (mem_of_byteSet_full h b)
    exact ⟨_, hi⟩
  exact surjective.bijective_of_finite

/-! ## The tables -/

/-- R211: each byte position of each table takes all 256 values. The mask keeps the kernel from comparing the entries in pairs;
one evaluation for each table and position keeps it from holding all of them in memory at once. -/
theorem byteSet_sbox (t : SboxTable) {k : Nat} (hk : k < 8) :
    byteSet (byteValues fun i => bytek (sbox t i) k) = 2 ^ 256 - 1 := by
  cases t <;> interval_cases k <;> decide +kernel

end Sys2Proof.Machine

namespace Sys2Proof.Proofs

open Machine

/-- Settles O42: all 256 bytes occur at each byte position, so its 256 entries are a permutation. -/
theorem sboxBytePositionsPermute : Obligations.SboxBytePositionsPermute := by
  intro t k hk
  exact bijective_of_byteSet_full (byteSet_sbox t hk)

end Sys2Proof.Proofs

/-! PROOFS. The errors (spec/60_exceptions.md R220 to R224): what a sticky error stops, what recording one writes, and the causes. -/

namespace Sys2Proof.Machine

/-! ## Under a sticky error -/

/-- R223: with ERR = 1 only INIT does anything. -/
theorem exec_sticky {i : Instr} {s : State} (he : s.err = true) (hi : ∀ arg, i ≠ .init arg) : exec i s = .next s := by
  rcases instr_cases i with rfl | ⟨arg, rfl⟩ | ⟨n, data, rfl⟩ | ⟨arg, rfl⟩ | reserved
  · rfl
  · exact absurd rfl (hi arg)
  · rw [exec_absorb_checks, if_pos he]
  · rw [exec_final_checks, if_pos he]
  · rw [exec_reserved reserved, reservedOpcode_eq, if_pos he]

/-! ## What recording an error writes -/

/-- R222, for every command but INIT. A sticky error that was there before is a case of it: then s = t (R223). -/
theorem TurnedAway.frame_of_err {s t : State} (h : TurnedAway s t) (ht : t.err = true) :
    t = { s with err := true, errcode := t.errcode } := by
  have frame := h.frame
  rwa [ht] at frame

@[simp] theorem finishMessage_err (tail : List Byte) (s : State) : (finishMessage tail s).err = s.err :=
  (compressFrames_keeps (tailFrames tail s.len) s).err

/-! ## Which error a command raises -/

/-- The error a state records: ERRCODE while ERR = 1. -/
def recordedError (s : State) : Option ErrCode := if s.err then some s.errcode else none

theorem recordedError_eq_some {s : State} {code : ErrCode} :
    recordedError s = some code ↔ s.err = true ∧ s.errcode = code := by simp [recordedError]

theorem recordedError_of_no_err {s : State} (h : s.err = false) : recordedError s = none := by simp [recordedError, h]

@[simp] theorem recordedError_raiseError (code : ErrCode) (s : State) : recordedError (raiseError code s) = some code := rfl

/-- The error the checks of an open message find, in their order: ARG before PHASE (R181). -/
def openMessageError (argLegal : Bool) (s : State) : Option ErrCode :=
  if argLegal = false then some .badArg else if s.phase ≠ .absorb then some .badSeq else none

@[simp] theorem openMessageError_eq_some {argLegal : Bool} {s : State} {code : ErrCode} :
    openMessageError argLegal s = some code ↔
      argLegal = false ∧ code = .badArg ∨ argLegal = true ∧ s.phase ≠ .absorb ∧ code = .badSeq := by
  cases argLegal <;> simp [openMessageError, eq_comm]

/-- R221: the error a command raises while ERR = 0. -/
def raisedError : Instr → State → Option ErrCode
  | .nop, _ => none
  | .init arg, _ => if 3 ≤ arg.toNat then some .badWidth else none
  | .absorb n _, s => openMessageError (legalCountArg n) s
  | .final arg, s => openMessageError (legalFinalArg arg) s
  | _, _ => some .badOp

theorem raisedError_reserved {i : Instr} (h : i.isReserved = true) (s : State) : raisedError i s = some .badOp := by
  cases i with
  | nop | init | absorb | final => simp [Instr.isReserved, Instr.opcode] at h
  | _ => rfl

/-- The checks of ABSORB and FINAL record the error they find, and past them the command keeps ERR. -/
theorem recordedError_inOpenMessage {argLegal : Bool} {s t : State} {act : Result} (hs : s.err = false)
    (h : inOpenMessage argLegal s act = .next t) (keeps : act = .next t → t.err = s.err) :
    recordedError t = openMessageError argLegal s := by
  rcases inOpenMessage_cases argLegal s act with ⟨he, -⟩ | ⟨-, ha, e⟩ | ⟨-, ha, hp, e⟩ | ⟨-, ha, hp, e⟩
  · simp [hs] at he
  · rw [← Host.Outcome.next.inj (e.symm.trans h), openMessageError, if_pos ha, recordedError_raiseError]
  · rw [← Host.Outcome.next.inj (e.symm.trans h), openMessageError, if_neg (by simp [ha]), if_pos hp,
      recordedError_raiseError]
  · rw [recordedError_of_no_err ((keeps (e.symm.trans h)).trans hs), openMessageError, if_neg (by simp [ha]),
      if_neg (not_not.mpr hp)]

/-- From ERR = 0 a command that goes on records exactly the error R221 names, or none. -/
theorem recordedError_exec {i : Instr} {s t : State} (hs : s.err = false) (h : exec i s = .next t) :
    recordedError t = raisedError i s := by
  rcases instr_cases i with rfl | ⟨arg, rfl⟩ | ⟨n, data, rfl⟩ | ⟨arg, rfl⟩ | reserved
  · rw [exec_nop_next h, recordedError_of_no_err hs, raisedError]
  · rcases exec_init_next h with ⟨legal, w, -, rfl⟩ | ⟨illegal, rfl⟩
    · exact (if_neg (by omega)).symm
    · exact (if_pos illegal).symm
  · exact recordedError_inOpenMessage hs h fun e => (absorbBytes_keeps (orFault_eq_next.mp e)).err
  · refine recordedError_inOpenMessage hs h fun e => ?_
    obtain ⟨tail, -, rfl⟩ := Option.map_eq_some_iff.mp (orFault_eq_next.mp e)
    exact finishMessage_err tail s
  · rcases exec_reserved_next reserved h with ⟨he, -⟩ | ⟨-, rfl⟩
    · simp [hs] at he
    · rw [raisedError_reserved reserved, recordedError_raiseError]

/-! The causes of each code (R221), command by command. -/

theorem raisedError_eq_badOp {i : Instr} {s : State} : raisedError i s = some .badOp ↔ i.isReserved = true := by
  cases i <;> simp [raisedError, Instr.isReserved, Instr.opcode]

theorem raisedError_eq_badArg {i : Instr} {s : State} :
    raisedError i s = some .badArg ↔
      (∃ n data, i = .absorb n data ∧ (n = 0 ∨ 9 ≤ n.toNat)) ∨ ∃ arg, i = .final arg ∧ arg ≠ 0 := by
  cases i with
  | absorb n data =>
    have illegal : legalCountArg n = false ↔ n = 0 ∨ 9 ≤ n.toNat := by
      rw [legalCountArg_eq_false]
      bv_omega
    simp [raisedError, illegal]
  | final arg => simp [raisedError, legalFinalArg_eq_false]
  | _ => simp [raisedError]

theorem raisedError_eq_badSeq {i : Instr} {s : State} :
    raisedError i s = some .badSeq ↔
      ((∃ n data, i = .absorb n data ∧ 1 ≤ n.toNat ∧ n.toNat ≤ 8) ∨ i = .final 0) ∧ s.phase ≠ .absorb := by
  cases i with
  | absorb n data => simp [raisedError, legalCountArg]
  | final arg => simp [raisedError, legalFinalArg]
  | _ => simp [raisedError]

theorem raisedError_eq_badWidth {i : Instr} {s : State} :
    raisedError i s = some .badWidth ↔ ∃ arg, i = .init arg ∧ 3 ≤ arg.toNat := by
  cases i <;> simp [raisedError]

theorem raisedError_ne_noError {i : Instr} {s : State} : raisedError i s ≠ some .noError := by
  cases i <;> simp [raisedError]

end Sys2Proof.Machine

namespace Sys2Proof.Proofs

open Machine

/-- Settles O16: the checks of every command but INIT stop at a sticky error, and INIT does not look at ERR. -/
theorem stickyErrors : Obligations.StickyErrors := by
  intro i s he
  refine ⟨exec_sticky he, ?_⟩
  rintro arg rfl
  refine ⟨fun legal => ?_, fun illegal => ⟨_, exec_init_illegal illegal s, rfl, rfl⟩⟩
  obtain ⟨w, e⟩ := exec_init_legal legal s
  exact ⟨_, e, rfl, rfl⟩

/-- Settles O17: a command that ends with ERR = 1 was turned away, or is an INIT with an illegal width; the others clear ERR or had
ERR = 0. -/
theorem errorsArePrecise : Obligations.ErrorsArePrecise := by
  intro i s t h ht _
  cases i with
  | nop => exact TurnedAway.frame_of_err (.inl (exec_nop_next h)) ht
  | init arg =>
    rcases exec_init_next h with ⟨-, w, -, rfl⟩ | ⟨-, rfl⟩
    · simp at ht
    · rfl
  | absorb n data =>
    rcases exec_absorb_effect h with ⟨-, away⟩ | ⟨⟨hs, -⟩, absorbed⟩
    · exact away.frame_of_err ht
    · simp [(absorbBytes_keeps absorbed).err, hs] at ht
  | final arg =>
    rcases exec_final_effect h with ⟨-, away⟩ | ⟨⟨hs, -⟩, tail, -, rfl⟩
    · exact away.frame_of_err ht
    · simp [hs] at ht
  | _ => exact (exec_reserved_turnedAway rfl h).frame_of_err ht

/-- Settles O18: a command records the error that the order of the checks names, and each code has its causes there. -/
theorem errorCodesAndCauses : Obligations.ErrorCodesAndCauses := by
  intro i s t hs h
  simp only [← recordedError_eq_some, recordedError_exec hs h]
  exact ⟨raisedError_eq_badOp, raisedError_eq_badArg, raisedError_eq_badSeq, raisedError_eq_badWidth, raisedError_ne_noError⟩

end Sys2Proof.Proofs

/-! PROOFS. Reset and completion (spec/70_reset_and_hazards.md R250, R259, R260): every command answers a next state where RegInv
holds; reset comes before everything else, and a step with BUSY = 1 is refused. -/

namespace Sys2Proof.Machine

/-! ## Every command completes -/

/-- R9: where every byte of BUF holds a value, the tail can be read. -/
theorem memRead_tail_completes {s : State} (h : BufSpecified s) : ∃ tail, memRead s.buf 0 (bufOffset s) = some tail :=
  memRead_of_isSome fun k hk => by
    rw [Nat.zero_add]
    exact h k (hk.trans (bufOffset_lt s))

/-- R181, R225: the checks complete with an error or none, so a command that is checked completes if it does in an open message. -/
theorem inOpenMessage_completes {argLegal : Bool} {s : State} {act : Result}
    (h : s.phase = .absorb → ∃ t, act = .next t) : ∃ t, inOpenMessage argLegal s act = .next t := by
  rcases inOpenMessage_cases argLegal s act with ⟨-, e⟩ | ⟨-, -, e⟩ | ⟨-, -, -, e⟩ | ⟨-, -, hp, e⟩
  · exact ⟨_, e⟩
  · exact ⟨_, e⟩
  · exact ⟨_, e⟩
  · rw [e]
    exact h hp

/-- R260: a command completes if BUF is specified while a message is open; only ABSORB and FINAL read BUF, and only then. -/
theorem exec_completes (i : Instr) {s : State} (h : s.phase = .absorb → BufSpecified s) : ∃ t, exec i s = .next t := by
  rcases instr_cases i with rfl | ⟨arg, rfl⟩ | ⟨n, data, rfl⟩ | ⟨arg, rfl⟩ | reserved
  · exact ⟨s, rfl⟩
  · rcases execInit_cases arg s with ⟨w, -, e⟩ | ⟨-, e⟩
    · exact ⟨_, e⟩
    · exact ⟨_, e⟩
  · refine inOpenMessage_completes fun hp => ?_
    obtain ⟨t, ht⟩ := absorbBytes_completes (bs := lanes n data) (h hp)
    exact ⟨t, orFault_eq_next.mpr ht⟩
  · refine inOpenMessage_completes fun hp => ?_
    obtain ⟨tail, htail⟩ := memRead_tail_completes (h hp)
    exact ⟨finishMessage tail s, orFault_eq_next.mpr (Option.map_eq_some_iff.mpr ⟨tail, htail, rfl⟩)⟩
  · exact ⟨_, (exec_reserved reserved s).trans (reservedOpcode_eq s)⟩

/-! ## Steps by reset, BUSY and what is presented -/

/-- R250: an edge with rst = 1 resets, whatever else holds. -/
theorem step_rst {s : State} (hr : (pins s).rst = true) : step s = .next (resetCore (passEdge s)) := if_pos hr

/-- R259: without reset a state with BUSY = 1 is not stepped. -/
theorem step_busy {s : State} (hb : s.busy = true) (hr : (pins s).rst = false) : step s = .refused .commandInProgress := by
  rw [step, if_neg (by simp [hr]), if_pos hb]

/-- R260: at a command boundary every edge completes: reset and an edge with nothing presented always, a presented command by
exec_completes. -/
theorem step_completes {s : State} (hb : s.busy = false) (h : s.phase = .absorb → BufSpecified s) :
    ∃ t, step s = .next t := by
  rcases step_cases s with ⟨-, e⟩ | ⟨-, hbusy, -⟩ | ⟨-, -, -, e⟩ | ⟨-, -, -, e⟩
  · exact ⟨_, e⟩
  · simp [hb] at hbusy
  · exact ⟨_, e⟩
  · obtain ⟨t, ht⟩ := exec_completes (decode (pins s).cmdWord) (s := acceptCommand (passEdge s)) h
    exact ⟨_, e.trans (completeCommand_eq_next.mpr ⟨t, ht, rfl⟩)⟩

end Sys2Proof.Machine

namespace Sys2Proof.Proofs

open Machine

/-- Settles O39: BUF is specified where a command reads it, and what completes keeps RegInv. -/
theorem commandsAlwaysComplete : Obligations.CommandsAlwaysComplete := by
  intro i s hs
  obtain ⟨t, ht⟩ := exec_completes i hs.bufSpecified
  exact ⟨t, ht, exec_keeps_regInv hs ht⟩

/-- Settles O38: the invariant excludes the refusal by BUSY = 0 and the fault by BUF specified in an open message. -/
theorem stepsAlwaysComplete : Obligations.StepsAlwaysComplete := fun _ hs => step_completes hs.notBusy hs.regs.bufSpecified

/-- Settles O31: the step is resetCore after the edge, which takes its registers from State.reset and its pins from s. -/
theorem resetFromAnyState : Obligations.ResetFromAnyState := fun _ hr =>
  ⟨cmdReady_eq_false (.inr hr), _, step_rst hr, rfl, rfl, rfl, rfl, rfl, rfl, rfl, rfl⟩

/-- Settles O34: BUSY = 1 lowers cmd_ready, and the step tests it before what is presented. -/
theorem busyStateIsNotStepped : Obligations.BusyStateIsNotStepped := fun _ hb hr =>
  ⟨cmdReady_eq_false (.inl hb), step_busy hb hr⟩

end Sys2Proof.Proofs
